-- ==== Sys2Proof/Word.lean ====
section
/-! DEFINITION. The words of the FG2416 and the numbers of its chains, groups, slots and pages (00_scope 2.3, 4.1). -/

namespace Sys2Proof

/-- One byte of the window or of the port. -/
abbrev Byte := BitVec 8

/-- A 16-bit field or register. -/
abbrev Half := BitVec 16

/-- A 32-bit field. -/
abbrev Word := BitVec 32

/-- An address of the 16 KiB window, 0000h to 3FFFh (R175). -/
abbrev WindowAddr := BitVec 14

/-- A chain number, 0 to 15. -/
abbrev ChainNo := Fin 16

/-- A group number, 0 to 63. -/
abbrev GroupNo := Fin 64

/-- A slot number, 0 to 15. -/
abbrev SlotNo := Fin 16

/-- A page number, 0 to 39. -/
abbrev PageNo := Fin 40

end Sys2Proof
end

