-- ==== Sys2Proof/Syntax.lean ====
section
/-! DEFINITION. The commands of the block: one constructor for each row of spec/opcode_table.json. The table gives its
rows no operands. The operands below are what the rules need to say what a row does: the byte written, the chain
concerned, the order the world takes coincident work in. -/

namespace Sys2Proof

/-- The blocks that have frame work (R156). -/
inductive FrameBlock where
  | scanScheduler
  | chainController
  | pageWriter
  | requestEngine
  deriving DecidableEq, Repr

/-- One command: an event of the host, of a pin or of the part itself. -/
inductive Instr where
  /-- HARD_RESET (R163): nRESET low, or power coming up. -/
  | hardReset
  /-- NRESET_RISE (R163): nRESET rises, or power-on completes. -/
  | nresetRise
  /-- INIT_END (R163): the window zeroing completes. -/
  | initEnd
  /-- START (R155): COMMAND written with low byte 01h; `high` is the ignored high byte (R152). -/
  | start (high : Byte)
  /-- STOP (R158, R160): COMMAND written with low byte 02h. -/
  | stop (high : Byte)
  /-- SOFT_RESET (R162): COMMAND written with low byte A5h. -/
  | softReset (high : Byte)
  /-- IRQ_FLAGS_WRITE (R167). -/
  | irqFlagsWrite (value : Half)
  /-- IRQ_ENABLE_WRITE (R169). -/
  | irqEnableWrite (value : Half)
  /-- REGISTER_WRITE_IGNORED (R152, R179): a register write that changes nothing. -/
  | registerWriteIgnored (number : Byte) (value : Half)
  /-- WINDOW_WRITE (R175): a data byte; `first` holds the two address bytes, the second the high one, when the byte is
  the first of its transaction, and is none when the byte follows another. -/
  | windowWrite (first : Option Half) (data : Byte)
  /-- WINDOW_READ (R176): the value of a data byte is taken; `first` as for a window write. -/
  | windowRead (first : Option Half)
  /-- FRAME_EXPIRY (R156): the frame timer expires; `order` names the blocks whose frame work is taken within this
  command, in the order the world takes it. The work of a block not named stays outstanding. -/
  | frameExpiry (order : List FrameBlock)
  /-- PERIOD_EXPIRY (R29) of a chain. -/
  | periodExpiry (chain : ChainNo)
  /-- IDLE_COOL_DOWN (R13) of a chain. -/
  | idleCoolDown (chain : ChainNo)
  /-- TIMER_SEAL (R101). -/
  | timerSeal
  /-- SETTLE_COMPLETION (R11) of a chain. -/
  | settleCompletion (chain : ChainNo)
  /-- EXCITATION_GRANT (R9). -/
  | excitationGrant
  /-- READ_START (R37). -/
  | readStart
  /-- READ_COMPLETION (R42). -/
  | readCompletion
  /-- PAGE_ACQUISITION (R99). -/
  | pageAcquisition
  /-- OVERRUN_RECORD (R84). -/
  | overrunRecord
  /-- DRAIN_END (R159). -/
  | drainEnd
  /-- SET_CHAIN (R134): the take of a SET_CHAIN request. -/
  | setChain
  /-- READ_CHAIN (R137): the take of a READ_CHAIN request. -/
  | readChain
  /-- PARK_CHAIN (R141): the take of a PARK_CHAIN request. -/
  | parkChain
  /-- SET_GROUP (R144): the take of a SET_GROUP request. -/
  | setGroup
  /-- REARM_GROUP (R146): the take of a REARM_GROUP request. -/
  | rearmGroup
  /-- DROP_GROUP (R147): the take of a DROP_GROUP request. -/
  | dropGroup
  /-- FLUSH (R148): the take of a FLUSH request. -/
  | flush
  /-- BAD_KIND (R128): the take of a request whose kind byte names no kind. -/
  | badKind
  /-- TRANSACTION_BEGIN (R174): nCS falls, and the host clocks the bytes of `lead` and then `bits`, first bit first,
  before any other event of the part. With nCS low already the transaction in progress runs on with those bytes and bits
  (log entry 12). -/
  | transactionBegin (lead : List Byte) (bits : List Bool)
  /-- TRANSACTION_END (R174): nCS rises. -/
  | transactionEnd
  /-- BIT_TIME (R39): a bit time of the read in progress; `inputs` holds the levels of CD0 to CD15. -/
  | bitTime (inputs : BitVec 16)
  deriving DecidableEq, Repr

end Sys2Proof
end

