-- ==== Sys2Proof/Config.lean ====
section
/-! DEFINITION. What is fixed for the part (the clock divisions), and the free values: the choices the rules leave to
the world. A free value has no body, so nothing can be proved about which value it is. -/

namespace Sys2Proof.Config

/-- CLKIN cycles in a frame length unit of 250 µs (R156). -/
def cyclesPerFrameUnit : Nat := 2000

/-- CLKIN cycles in a settle time unit of 10 µs, at 8 MHz (R11). -/
def cyclesPerSettleUnit : Nat := 80

/-- CLKIN cycles in a bit time, by shift clock code (R38). -/
def cyclesPerBit : Nat → Nat
  | 0 => 8
  | 1 => 16
  | 2 => 32
  | _ => 64

/-- FREE VALUE (log entry 9): how many CLKIN cycles the n-th window zeroing takes, at most 2 ms, 16000 cycles (R163). -/
opaque initCycles : Nat → Fin 16001

/-- FREE VALUE (log entry 9): the levels of CD0 to CD15 at a bit time that the clock brings (R39). -/
opaque chainInputs : Nat → BitVec 16

/-- FREE VALUE (log entry 9): the order in which the blocks' work of a frame expiry brought by the clock is taken (R156). -/
opaque frameOrder : Nat → Nat

/-- FREE VALUE (log entry 9): the order of events that the clock brings at one moment (00_scope 4.6, R31). -/
opaque tieOrder : Nat → Nat

end Sys2Proof.Config
end

