-- ==== Sys2Proof/Machine/State.lean ====
section
/-! DEFINITION. The state of the FG2416, block by block (00_scope 2.1), and the state right after reset. -/

namespace Sys2Proof.Machine

open Sys2Proof

/-! ## Run Controller (08) -/

/-- The four run states (R151). -/
inductive RunState where
  | init
  | idle
  | running
  | draining
  deriving DecidableEq, Repr

/-- The geometry in force (R153). -/
structure Geometry where
  /-- S, 1 to 16. -/
  slots : Nat
  /-- P, 2 to 40. -/
  pages : Nat
  /-- Frame length code, 1 to 64. -/
  frameCode : Nat
  /-- W, 1 to 4. -/
  warm : Nat
  /-- Shift clock code, 0 to 3. -/
  shiftCode : Nat
  /-- Seal delay, 1 to 255 frames. -/
  sealDelay : Nat
  deriving DecidableEq, Repr

/-- The Run Controller's items (R151, R153, R154, R156, R157, R163, R164). -/
structure RunControl where
  state : RunState
  /-- nRESET is low, or power is coming up (R163). -/
  nresetLow : Bool
  /-- The window zeroing in progress: CLKIN cycles left (R163). -/
  zeroing : Option Nat
  /-- CLKIN cycles to the next frame expiry; none while the timer is stopped (R156). -/
  frameTimer : Option Nat
  /-- None before the first accepted START after a hard reset (R153). -/
  geometry : Option Geometry
  signature : Word
  epoch : Half
  stamp : Word
  /-- Refusal cause, 0 to 7 (R154). -/
  refusal : Nat
  deriving DecidableEq, Repr

/-- Work of the latest frame expiry that no event has taken yet (log entry 5). -/
structure FrameWork where
  /-- Chains whose counter reached 0 in the decrement and whose period expiry is not yet taken, ascending (R29). -/
  expiries : List ChainNo
  /-- Chains not yet examined for idle cool-down (R13). -/
  coolDowns : List ChainNo
  /-- The Page Writer's frame work is still to be done (R101). -/
  pageWork : Bool
  /-- Slots the sweep has still to visit, in its order (R116). -/
  sweep : List SlotNo
  deriving DecidableEq, Repr

/-! ## Chain Controller and Scan Scheduler (01, 02) -/

/-- The six chain states (R3). -/
inductive ChainState where
  | off
  | cold
  | settling
  | warm
  | reading
  | lost
  deriving DecidableEq, Repr

/-- The definition part of a chain record (R1). -/
structure ChainDef where
  enabled : Bool
  /-- L, 8 to 128 points. -/
  length : Nat
  /-- 1 to 255 units of 10 µs. -/
  settleTime : Nat
  /-- D, 1 to 8 reads. -/
  depth : Nat
  /-- 0 to 255 frames, 0 for no standing scan. -/
  period : Nat
  /-- C, 0 to 255 frames, 0 for no idle cool-down. -/
  coolDown : Nat
  /-- 1 to 7. -/
  faultLimit : Nat
  /-- 01h to FEh. -/
  checkPattern : Byte
  pinned : Bool
  deriving DecidableEq, Repr

/-- A chain's waiting requests list: READ_CHAIN slots in take order, or one deferred marker, never both (R3). -/
inductive WaitList where
  | reads (slots : List SlotNo)
  | deferred (slot : SlotNo)
  deriving DecidableEq, Repr

/-- A chain record (R1), with the chain's settle timer (R11) and period counter (R28). -/
structure ChainRec where
  defn : ChainDef
  state : ChainState
  /-- 0 to 7. -/
  faultRun : Nat
  late : Half
  reads : Half
  /-- 0 to 255. -/
  idle : Nat
  lastRead : Half
  waiting : WaitList
  /-- CLKIN cycles to settle completion, while SETTLING. -/
  settle : Option Nat
  /-- A settle was abandoned after its timer had run out and before its completion was taken from the queue: that
  completion does not follow (R12). The model's own (log entry 10). -/
  stale : Bool
  /-- 0 to 255. -/
  periodCounter : Nat
  deriving DecidableEq, Repr

/-! ## Chain Reader (02) -/

/-- The read in progress (R35), with the levels of its pins (R39) and the place it has reached. -/
structure ReadInProgress where
  chain : ChainNo
  /-- The chain's L at read start. -/
  length : Nat
  /-- CLKIN cycles in a bit time, fixed at read start (R38). -/
  bitTime : Nat
  /-- The READ_CHAIN slots that belong to this read, in take order (R37). -/
  attached : List SlotNo
  /-- The bits sampled so far, the first sampled first. -/
  received : List Bool
  /-- Bit time 0, the load: CLD is active. -/
  loading : Bool
  /-- CCLK is high. -/
  clockHigh : Bool
  /-- CLKIN cycles since read start. -/
  elapsed : Nat
  deriving DecidableEq, Repr

/-! ## Point Filter and Group Evaluator (03) -/

/-- One point position: its raw value, filtered value and debounce counter (R53). -/
structure Point where
  raw : Bool
  filtered : Bool
  counter : Nat
  deriving DecidableEq, Repr

/-- What the Point Filter holds for a chain (R53). -/
structure Image where
  points : Vector Point 128
  primed : Bool
  deriving DecidableEq, Repr

/-- Group modes (R59). -/
inductive Mode where
  | diverge
  | returns
  | both
  | step
  deriving DecidableEq, Repr

/-- Group states (R61). -/
inductive GroupState where
  | unset
  | conform
  | diverged
  deriving DecidableEq, Repr

/-- A group record (R59). -/
structure GroupRec where
  defined : Bool
  chain : ChainNo
  /-- Base point, 0 to 127. -/
  base : Nat
  /-- 1 to 16 points. -/
  width : Nat
  mask : Half
  compare : Half
  mode : Mode
  cls : Fin 4
  state : GroupState
  last : Half
  trips : Half
  lastTrip : Half
  deriving DecidableEq, Repr

/-! ## Record Unit (04) -/

/-- Record kinds (R78). -/
inductive RecordKind where
  | diverge
  | returns
  | step
  | chainFault
  | chainLost
  | chainRecovered
  | overrun
  deriving DecidableEq, Repr

/-- A change record (R77); none stands for FFh in the chain and group fields. -/
structure Record where
  seq : Half
  kind : RecordKind
  cls : Fin 4
  chain : Option ChainNo
  group : Option GroupNo
  before : Half
  after : Half
  detail : Half
  stamp : Word
  deriving DecidableEq, Repr

/-- The Record Unit's items (R76). -/
structure RecordUnit where
  /-- The record sequence. -/
  seq : Half
  /-- The trip queue, oldest first. -/
  queue : List Record
  /-- Overrun pending. -/
  overrun : Half
  generated : Word
  written : Word
  lost : Word
  episodes : Half
  deriving DecidableEq, Repr

/-! ## Page Writer (05) -/

/-- Seal causes (R102). -/
inductive SealCause where
  | full
  | timer
  | flush
  | stop
  deriving DecidableEq, Repr

/-- The Page Writer's items (R93). -/
structure PageWriter where
  current : Option PageNo
  cursor : PageNo
  nextSeq : Word
  /-- 0 to 255. -/
  sealTimer : Nat
  sealed : Word
  lastSealed : Word
  deriving DecidableEq, Repr

/-! ## Request Engine (06) -/

/-- A request as read at its take: kind, tag and the twelve parameter bytes (R112, R118). -/
structure Request where
  kind : Byte
  tag : Half
  params : List Byte
  deriving DecidableEq, Repr

/-- A slot of the taken set with its held request (R118). -/
structure Held where
  slot : SlotNo
  request : Request
  deriving DecidableEq, Repr

/-- The Request Engine's items (R111). -/
structure RequestEngine where
  /-- The taken set, in take order. -/
  taken : List Held
  cursor : SlotNo
  deriving DecidableEq, Repr

/-! ## Alert Unit (09) -/

/-- The seven interrupt flags (R166). -/
inductive Flag where
  | sealed
  | trip
  | answer
  | chain
  | overrun
  | stopped
  | board
  deriving DecidableEq, Repr

/-- The Alert Unit's items (R165): bit n of `flags` and of `enables` belongs to the flag at bit n of IRQ_FLAGS. -/
structure Alerts where
  flags : BitVec 7
  enables : BitVec 7
  level : BitVec 2
  deriving DecidableEq, Repr

/-! ## Window Port (10) -/

/-- Where the port stands in a transaction (R174, R175, R176, R179). -/
inductive PortPhase where
  /-- nCS is high. -/
  | closed
  /-- nCS is low and every byte up to its rise is ignored (R174, R181). -/
  | ignored
  /-- nCS is low, the instruction byte is expected. -/
  | instruction
  /-- The first address byte is expected, of a window write or a window read. -/
  | addressLow (write : Bool)
  /-- The second address byte is expected. -/
  | addressHigh (write : Bool) (low : Byte)
  /-- The next data byte goes to `addr`. -/
  | windowWrite (addr : WindowAddr)
  /-- The next data byte is taken from `addr`. -/
  | windowRead (addr : WindowAddr)
  /-- The register number byte is expected. -/
  | registerNumber (write : Bool)
  /-- Register `number` is written next; `held` is the first byte of its pair. -/
  | registerWrite (number : Byte) (held : Option Byte)
  /-- Register `number` is driven from its copy; `high` says that the high byte is the one being driven. -/
  | registerRead (number : Byte) (copy : Half) (high : Bool)
  deriving DecidableEq, Repr

/-- The Window Port's transaction in progress (R174 to R179). -/
structure Port where
  phase : PortPhase
  /-- The bits of the byte being shifted, the first received first. -/
  shift : List Bool
  /-- The header capture, 64 bytes (R177). -/
  headerCapture : Option (List Byte)
  /-- The mirror-entry capture: the entry's address and its 8 bytes (R177). -/
  mirrorCapture : Option (Nat × List Byte)
  /-- The byte driven on SDO; none while SDO is high-impedance. -/
  sdo : Option Byte
  deriving DecidableEq, Repr

/-- The window RAM as (address, byte) pairs in one canonical form: addresses rise strictly and no listed byte is 00h,
which is what an unlisted address reads as (log entry 2). -/
abbrev Memory := List Host.Cell

/-! ## The whole part -/

/-- The state of the part and the commands that wait for it. -/
structure State where
  run : RunControl
  frame : FrameWork
  chains : Vector ChainRec 16
  /-- The LRU order, least recent first (R6). -/
  lru : List ChainNo
  /-- The due queue, earliest first (R32). -/
  due : List ChainNo
  /-- The Chain Reader: none while idle (R35). -/
  read : Option ReadInProgress
  images : Vector Image 16
  groups : Vector GroupRec 64
  records : RecordUnit
  pages : PageWriter
  requests : RequestEngine
  alerts : Alerts
  port : Port
  window : Memory
  /-- The model's own counter, argument of the free values of Config (log entry 9). -/
  fresh : Nat
  /-- The commands waiting, first in first out. -/
  pending : List Instr
  deriving DecidableEq, Repr

/-- Why the machine stops. No rule of the spec stops the part. -/
inductive Fault where
  /-- Raised by the meanings of FRAME_EXPIRY and REGISTER_WRITE_IGNORED on a term that is not well formed (Instr.wf), so
  is no command of the table. Safe: the hardware never meets such a term (log entry 20). -/
  | notACommand
  deriving DecidableEq, Repr

/-- Why a command has no meaning. -/
inductive Refusal where
  /-- Raised by an arm of exec that has no meaning yet. Safe. No arm of this model raises it. -/
  | notModelled (mnemonic : String)
  deriving DecidableEq, Repr

/-! ## Reset values -/

/-- Hard-reset values of a chain's definition (R1). -/
def ChainDef.reset : ChainDef :=
  { enabled := false, length := 8, settleTime := 1, depth := 1, period := 0, coolDown := 0, faultLimit := 3,
    checkPattern := 0x96, pinned := false }

/-- Hard-reset values of a chain record (R1, R11, R28). -/
def ChainRec.reset : ChainRec :=
  { defn := ChainDef.reset, state := .off, faultRun := 0, late := 0, reads := 0, idle := 0, lastRead := 0,
    waiting := .reads [], settle := none, stale := false, periodCounter := 0 }

/-- Hard-reset value of a point position (R53). -/
def Point.reset : Point := { raw := false, filtered := false, counter := 0 }

/-- Hard-reset values of a chain's image (R53); unpriming gives the same (R58). -/
def Image.reset : Image := { points := Vector.replicate 128 Point.reset, primed := false }

/-- Hard-reset values of a group record (R59). -/
def GroupRec.reset : GroupRec :=
  { defined := false, chain := 0, base := 0, width := 1, mask := 0, compare := 0, mode := .diverge, cls := 0,
    state := .unset, last := 0, trips := 0, lastTrip := 0 }

/-- The Record Unit after hard reset, soft reset and START (R76). -/
def RecordUnit.reset : RecordUnit :=
  { seq := 0, queue := [], overrun := 0, generated := 0, written := 0, lost := 0, episodes := 0 }

/-- The Page Writer after a hard or soft reset (R93). -/
def PageWriter.reset : PageWriter :=
  { current := none, cursor := 0, nextSeq := 1, sealTimer := 0, sealed := 0, lastSealed := 0 }

/-- No frame work outstanding. -/
def FrameWork.empty : FrameWork := { expiries := [], coolDowns := [], pageWork := false, sweep := [] }

/-- A port with no transaction of which any byte has arrived, in a given phase (R174). -/
def Port.fresh (phase : PortPhase) : Port :=
  { phase := phase, shift := [], headerCapture := Option.none, mirrorCapture := Option.none, sdo := Option.none }

/-- The part while it is held in reset: every block at its hard-reset values (R163). nRESET low and nCS high are the
model's reading of "right after reset" (log entry 3). -/
def State.reset : State :=
  { run := { state := .init, nresetLow := true, zeroing := Option.none, frameTimer := Option.none,
             geometry := Option.none, signature := 0, epoch := 0, stamp := 0, refusal := 0 },
    frame := FrameWork.empty,
    chains := Vector.replicate 16 ChainRec.reset,
    lru := [], due := [], read := Option.none,
    images := Vector.replicate 16 Image.reset,
    groups := Vector.replicate 64 GroupRec.reset,
    records := RecordUnit.reset,
    pages := PageWriter.reset,
    requests := { taken := [], cursor := 15 },
    alerts := { flags := 0, enables := 0, level := 0 },
    port := Port.fresh .closed,
    window := [],
    fresh := 0,
    pending := [] }

end Sys2Proof.Machine
end

