-- ==== Sys2Proof/Machine/Memory.lean ====
section
/-! DEFINITION. The window RAM: reading and writing bytes in the canonical form, byte order of wider fields
(00_scope 4.1: little-endian), and the addresses of 10_port R182 to R184. -/

namespace Sys2Proof.Machine

open Sys2Proof

/-- The byte at an address; an unlisted address reads 00h. -/
def Memory.read : Memory → Nat → Byte
  | [], _ => 0
  | (k, v) :: rest, a => if a = k then v else Memory.read rest a

/-- One byte written, keeping the canonical form. -/
def Memory.write : Memory → Nat → Byte → Memory
  | [], a, b => if b = 0 then [] else [(a, b)]
  | (k, v) :: rest, a, b =>
    if a < k then (if b = 0 then (k, v) :: rest else (a, b) :: (k, v) :: rest)
    else if a = k then (if b = 0 then rest else (a, b) :: rest)
    else (k, v) :: Memory.write rest a b

/-- Bytes written at rising addresses. -/
def Memory.writeBytes : Memory → Nat → List Byte → Memory
  | m, _, [] => m
  | m, a, b :: bs => Memory.writeBytes (m.write a b) (a + 1) bs

/-- Every byte of `n` addresses from `a` on set to 00h. -/
def Memory.clear (m : Memory) (a n : Nat) : Memory :=
  m.filter fun cell => cell.1 < a || a + n ≤ cell.1

/-- `n` bytes from `a` on. -/
def Memory.readBytes (m : Memory) (a n : Nat) : List Byte :=
  (List.range n).map fun i => m.read (a + i)

/-- The canonical form above a bound: addresses rise strictly, none listed with 00h. -/
def Memory.risingFrom : Nat → Memory → Bool
  | _, [] => true
  | lo, (k, v) :: rest => lo ≤ k && v != 0 && Memory.risingFrom (k + 1) rest

/-- The canonical form of the window RAM. -/
def Memory.wf (m : Memory) : Bool := Memory.risingFrom 0 m

/-! ## Bytes of wider fields -/

/-- The two bytes of a 16-bit field, least significant first. -/
def halfBytes (h : Half) : List Byte := [h.extractLsb' 0 8, h.extractLsb' 8 8]

/-- The four bytes of a 32-bit field, least significant first. -/
def wordBytes (w : Word) : List Byte := [w.extractLsb' 0 8, w.extractLsb' 8 8, w.extractLsb' 16 8, w.extractLsb' 24 8]

/-- The 16-bit field of two bytes. -/
def halfOf (low high : Byte) : Half := high ++ low

/-- The 32-bit field of four bytes. -/
def wordOf (b0 b1 b2 b3 : Byte) : Word := ((b3 ++ b2) ++ b1) ++ b0

/-- The 16-bit field at an address. -/
def Memory.half (m : Memory) (a : Nat) : Half := halfOf (m.read a) (m.read (a + 1))

/-- The 32-bit field at an address. -/
def Memory.word (m : Memory) (a : Nat) : Word := wordOf (m.read a) (m.read (a + 1)) (m.read (a + 2)) (m.read (a + 3))

/-- The low 16 bits of a 32-bit count. -/
def lowHalf (w : Word) : Half := w.extractLsb' 0 16

/-! ## Addresses -/

/-- First byte of a slot (R112, R182). -/
def slotBase (k : SlotNo) : Nat := 0x40 + k.val * 0x30

/-- First byte of a page table entry (R182). -/
def entryBase (p : PageNo) : Nat := 0x340 + p.val * 4

/-- First byte of a page (R95). -/
def pageBase (p : PageNo) : Nat := 0x700 + p.val * 0x100

/-- First byte of the k-th record place of a page, counting from 1 (R184). -/
def placeBase (p : PageNo) (k : Nat) : Nat := pageBase p + k * 0x10

/-! ## Owner codes -/

/-- EMPTY (R113). -/
def slotEmpty : Byte := 0
/-- POSTED (R113). -/
def slotPosted : Byte := 1
/-- TAKEN (R113). -/
def slotTaken : Byte := 2
/-- ANSWERED (R113). -/
def slotAnswered : Byte := 3
/-- NONE (R94). -/
def pageNone : Byte := 0
/-- FREE (R94). -/
def pageFree : Byte := 1
/-- FILLING (R94). -/
def pageFilling : Byte := 2
/-- SEALED (R94). -/
def pageSealed : Byte := 3

end Sys2Proof.Machine
end

