-- ==== Sys2Proof/Machine/Views.lean ====
section
/-! DEFINITION. What the host and the board see of the state: pins, registers, header, mirrors, window bytes. Each is
computed from the item's one home (log entry 1). -/

namespace Sys2Proof.Machine

open Sys2Proof

/-- The sixteen chain numbers, ascending. -/
def allChains : List ChainNo := [0, 1, 2, 3, 4, 5, 6, 7, 8, 9, 10, 11, 12, 13, 14, 15]

/-- The sixteen slot numbers, ascending. -/
def allSlots : List SlotNo := allChains

/-- The sixty-four group numbers, ascending. -/
def allGroups : List GroupNo := List.ofFn id

/-- A chain's record. -/
def State.chain (s : State) (c : ChainNo) : ChainRec := s.chains[c.val]

/-- A chain's image. -/
def State.image (s : State) (c : ChainNo) : Image := s.images[c.val]

/-- A group's record. -/
def State.group (s : State) (g : GroupNo) : GroupRec := s.groups[g.val]

/-- The warm limit in force; 0 while no geometry is in force, when nothing is granted (R153, log entry 19). -/
def State.warmLimit (s : State) : Nat :=
  match s.run.geometry with
  | some g => g.warm
  | none => 0

/-- S of the geometry in force. -/
def State.slotCount (s : State) : Nat :=
  match s.run.geometry with
  | some g => g.slots
  | none => 0

/-- P of the geometry in force. -/
def State.pageCount (s : State) : Nat :=
  match s.run.geometry with
  | some g => g.pages
  | none => 0

/-- The states in which a chain is excited and counts in the warm set (R3, R5). -/
def ChainState.excited : ChainState → Bool
  | .off => false
  | .cold => false
  | .settling => true
  | .warm => true
  | .reading => true
  | .lost => false

/-- The number of chains in SETTLING, WARM or READING (R5). -/
def State.warmCount (s : State) : Nat := allChains.countP fun c => (s.chain c).state.excited

/-- The pinned count (R8). -/
def State.pinnedCount (s : State) : Nat := allChains.countP fun c => (s.chain c).defn.pinned

/-! ## Pins -/

/-- EXn is high (R4). -/
def State.excitation (s : State) (c : ChainNo) : Bool := (s.chain c).state.excited

/-- CLD is active (R35, R39). -/
def State.cld (s : State) : Bool :=
  match s.read with
  | some rd => rd.loading
  | none => false

/-- CCLK is high (R35, R39). -/
def State.cclk (s : State) : Bool :=
  match s.read with
  | some rd => rd.clockHigh
  | none => false

/-- nIRQ is pulled low: a flag is 1 whose enable is 1 (R171). -/
def State.nirqLow (s : State) : Bool := s.alerts.flags &&& s.alerts.enables != 0

/-! ## Registers -/

/-- Run state codes (R151). -/
def RunState.code : RunState → Nat
  | .init => 0
  | .idle => 1
  | .running => 2
  | .draining => 3

/-- STATUS (R180). -/
def State.status (s : State) : Half :=
  BitVec.ofNat 16 (s.run.state.code + 4 * s.run.refusal + 64 * s.requests.taken.length + 512 * s.warmCount
    + 4096 * s.read.isSome.toNat + 8192 * s.pages.current.isSome.toNat)

/-- IRQ_FLAGS as read: the flags at bits 0 to 6 (R180). -/
def State.irqFlags (s : State) : Half := s.alerts.flags.setWidth 16

/-- IRQ_ENABLE as read: enables at bits 0 to 6, alert level at bits 9 and 8 (R169). -/
def State.irqEnable (s : State) : Half := s.alerts.enables.setWidth 16 ||| (s.alerts.level.setWidth 16 <<< 8)

/-- A register as the port copies it (R179, R180). -/
def State.register (s : State) (number : Byte) : Half :=
  if number = 0 then 0x2416
  else if number = 1 then s.status
  else if number = 3 then s.irqFlags
  else if number = 4 then s.irqEnable
  else 0

/-! ## Header and mirrors -/

/-- Header bytes 10h to 3Fh (R182). -/
def State.headerDevice (s : State) : List Byte :=
  wordBytes s.run.signature ++ halfBytes s.run.epoch ++ halfBytes s.records.episodes ++ wordBytes s.run.stamp
    ++ wordBytes s.records.generated ++ wordBytes s.records.written ++ wordBytes s.records.lost
    ++ wordBytes s.pages.sealed ++ wordBytes s.pages.lastSealed ++ List.replicate 16 0

/-- Chain state codes (R3). -/
def ChainState.code : ChainState → Byte
  | .off => 0
  | .cold => 1
  | .settling => 2
  | .warm => 3
  | .reading => 4
  | .lost => 5

/-- A chain mirror entry (R27, R185). -/
def ChainRec.mirror (r : ChainRec) : List Byte :=
  [r.state.code, BitVec.ofNat 8 r.faultRun] ++ halfBytes r.late ++ halfBytes r.reads ++ halfBytes r.lastRead

/-- The flags byte of a defined group (R71, R185). -/
def GroupState.mirrorFlags : GroupState → Byte
  | .unset => 0x05
  | .conform => 0x01
  | .diverged => 0x03

/-- A group mirror entry; zero for an undefined group (R71, R185). -/
def GroupRec.mirror (g : GroupRec) : List Byte :=
  if g.defined then
    [g.state.mirrorFlags, BitVec.ofNat 8 g.chain.val] ++ halfBytes g.last ++ halfBytes g.trips ++ halfBytes g.lastTrip
  else List.replicate 8 0

/-- The mirror entry an address of 0400h to 067Fh lies in: its first address and its bytes. -/
def State.mirrorEntry (s : State) (a : Nat) : Nat × List Byte :=
  if a < 0x480 then
    (0x400 + (a - 0x400) / 8 * 8, (s.chain (Fin.ofNat 16 ((a - 0x400) / 8))).mirror)
  else
    (0x480 + (a - 0x480) / 8 * 8, (s.group (Fin.ofNat 64 ((a - 0x480) / 8))).mirror)

/-- Whether an address lies in one of the mirrors (R182). -/
def inMirror (a : Nat) : Bool := 0x400 ≤ a && a < 0x680

/-- Whether an address lies in the header device fields (R182). -/
def inHeaderDevice (a : Nat) : Bool := 0x10 ≤ a && a < 0x40

/-- The live byte of the window at an address (R182). -/
def State.windowByte (s : State) (a : Nat) : Byte :=
  if inHeaderDevice a then s.headerDevice.getD (a - 0x10) 0
  else if inMirror a then (s.mirrorEntry a).2.getD (a % 8) 0
  else s.window.read a

/-- The 64 bytes of the header (R177). -/
def State.header (s : State) : List Byte := (List.range 0x40).map s.windowByte

/-- The owner code of a slot. -/
def State.slotOwner (s : State) (k : SlotNo) : Byte := s.window.read (slotBase k)

/-- The owner code of a page table entry. -/
def State.pageOwner (s : State) (p : PageNo) : Byte := s.window.read (entryBase p)

end Sys2Proof.Machine
end

