-- ==== Sys2Proof/Machine/Flags.lean ====
section
/-! DEFINITION. The Alert Unit (09): causes, clears, enables. -/

namespace Sys2Proof.Machine

open Sys2Proof

/-- A flag's bit in IRQ_FLAGS and IRQ_ENABLE (R166). -/
def Flag.mask : Flag → BitVec 7
  | .sealed => 0x01
  | .trip => 0x02
  | .answer => 0x04
  | .chain => 0x08
  | .overrun => 0x10
  | .stopped => 0x20
  | .board => 0x40

/-- Whether a flag is set. -/
def State.flagged (s : State) (f : Flag) : Bool := s.alerts.flags &&& f.mask != 0

/-- A cause sets its flag, whether it is enabled or not (R166). -/
def State.raise (s : State) (f : Flag) : State :=
  { s with alerts := { s.alerts with flags := s.alerts.flags ||| f.mask } }

/-- A write of IRQ_FLAGS clears every flag at whose bit a 1 is written; bits 7 to 15 are ignored (R167). -/
def State.clearFlags (s : State) (value : Half) : State :=
  { s with alerts := { s.alerts with flags := s.alerts.flags &&& ~~~(value.setWidth 7) } }

/-- A write of IRQ_ENABLE sets the enables and the alert level; bits 7 and 10 to 15 are ignored (R169). -/
def State.setEnables (s : State) (value : Half) : State :=
  { s with alerts := { s.alerts with enables := value.setWidth 7, level := value.extractLsb' 8 2 } }

end Sys2Proof.Machine
end

