-- ==== Sys2Proof/Machine/Ops.lean ====
section
/-! DEFINITION. Operations that several commands share: named updates of the state, records and pages (04, 05),
the end of a drain (08), answers (06), the warm set and the reader's choice (01, 02), reconfiguration and park (01). -/

namespace Sys2Proof.Machine

open Sys2Proof

/-! ## Named updates -/

/-- A chain's record replaced. -/
def State.setChain (s : State) (c : ChainNo) (r : ChainRec) : State :=
  { s with chains := s.chains.set c.val r c.isLt }

/-- A chain's record changed. -/
def State.modChain (s : State) (c : ChainNo) (f : ChainRec → ChainRec) : State := s.setChain c (f (s.chain c))

/-- A chain's image replaced. -/
def State.setImage (s : State) (c : ChainNo) (i : Image) : State :=
  { s with images := s.images.set c.val i c.isLt }

/-- A group's record replaced. -/
def State.setGroup (s : State) (g : GroupNo) (r : GroupRec) : State :=
  { s with groups := s.groups.set g.val r g.isLt }

/-- The window RAM replaced. -/
def State.setWindow (s : State) (m : Memory) : State := { s with window := m }

/-- The Record Unit's items replaced. -/
def State.setRecords (s : State) (r : RecordUnit) : State := { s with records := r }

/-- The Page Writer's items replaced. -/
def State.setPages (s : State) (p : PageWriter) : State := { s with pages := p }

/-- The outstanding frame work replaced. -/
def State.setFrame (s : State) (w : FrameWork) : State := { s with frame := w }

/-! ## Records: layout, numbering, dropping (R77 to R84, R184) -/

/-- Record kind codes (R78). -/
def RecordKind.code : RecordKind → Byte
  | .diverge => 1
  | .returns => 2
  | .step => 3
  | .chainFault => 4
  | .chainLost => 5
  | .chainRecovered => 6
  | .overrun => 7

/-- A record's chain or group byte: FFh where it concerns none (R77). -/
def numberByte {n : Nat} : Option (Fin n) → Byte
  | some k => BitVec.ofNat 8 k.val
  | none => 0xFF

/-- The sixteen bytes of a record in its place (R184). -/
def Record.bytes (r : Record) : List Byte :=
  halfBytes r.seq ++ [r.kind.code, BitVec.ofNat 8 r.cls.val, numberByte r.chain, numberByte r.group]
    ++ halfBytes r.before ++ halfBytes r.after ++ halfBytes r.detail ++ wordBytes r.stamp

/-- The capacity of the trip queue (R81). -/
def tripQueueSize : Nat := 12

/-- A record joins the trip queue at its tail with the current record sequence (R80). -/
def State.appendRecord (s : State) (r : Record) : State :=
  s.setRecords { s.records with queue := s.records.queue ++ [{ r with seq := s.records.seq }], seq := s.records.seq + 1 }

/-- A record that meets a full trip queue is dropped and counted (R83). -/
def State.dropRecord (s : State) : State :=
  let dropped := s.setRecords { s.records with
    lost := s.records.lost + 1
    overrun := if s.records.overrun = 0xFFFF then 0xFFFF else s.records.overrun + 1
    episodes := if s.records.overrun = 0 then s.records.episodes + 1 else s.records.episodes }
  if s.records.overrun = 0 then dropped.raise .overrun else dropped

/-- The OVERRUN record of the open episode (R78, R84). -/
def State.overrunRecord (s : State) : Record :=
  { seq := s.records.seq, kind := .overrun, cls := 0, chain := none, group := none, before := 0,
    after := s.records.episodes, detail := s.records.overrun, stamp := s.run.stamp }

/-- An OVERRUN record fills the place just freed and ends the episode, if losses are pending (R84). -/
def State.placeOverrun (s : State) : State :=
  if s.records.overrun = 0 then s
  else
    let appended := s.appendRecord s.overrunRecord
    appended.setRecords { appended.records with generated := s.records.generated + 1, overrun := 0 }

/-! ## Pages: searching, opening, filling, sealing (R97 to R102) -/

/-- The number of records written into a page so far, from its header. -/
def State.recordCount (s : State) (p : PageNo) : Byte := s.window.read (pageBase p + 6)

/-- The page sequence of a page, from its header. -/
def State.pageSeq (s : State) (p : PageNo) : Word := s.window.word (pageBase p)

/-- Numbers 0 to n-1 in cyclic order, beginning after `cursor` (R98, R116). -/
def cyclicAfter (n cursor : Nat) : List Nat := (List.range n).map fun i => (cursor + 1 + i) % n

/-- The page a search finds: the first entry after the cursor, in cyclic order, that reads FREE (R98). -/
def State.searchPage (s : State) : Option PageNo :=
  ((cyclicAfter s.pageCount s.pages.cursor.val).map (Fin.ofNat 40)).find? fun p => s.pageOwner p == pageFree

/-- The record sequence of the record at the head of the trip queue. -/
def State.headSeq (s : State) : Half :=
  match s.records.queue with
  | r :: _ => r.seq
  | [] => s.records.seq

/-- The header of a page just opened (R99, step 3; R184). -/
def State.openHeader (s : State) : List Byte :=
  wordBytes s.pages.nextSeq ++ halfBytes s.headSeq ++ [0, 0] ++ wordBytes s.run.stamp ++ wordBytes 0

/-- Acquisition opens a page: its entry FILLING, its places zero, its header written (R99, steps 1 to 5). -/
def State.openPage (s : State) (p : PageNo) : State :=
  let entry := s.window.writeBytes (entryBase p) ([pageFilling, 0] ++ halfBytes (lowHalf s.pages.nextSeq))
  { s with
    window := (entry.clear (pageBase p) 0x100).writeBytes (pageBase p) s.openHeader
    pages := { s.pages with current := some p, cursor := p, nextSeq := s.pages.nextSeq + 1, sealTimer := 0 } }

/-- A record's bytes into the next free place, and the counts in header and entry (R100, steps 1 and 2). -/
def State.placeRecord (s : State) (p : PageNo) (r : Record) : State :=
  let count := s.recordCount p + 1
  s.setWindow (((s.window.writeBytes (placeBase p count.toNat) r.bytes).write (pageBase p + 6) count).write
    (entryBase p + 1) count)

/-- Seal cause codes (R102). -/
def SealCause.code : SealCause → Byte
  | .full => 1
  | .timer => 2
  | .flush => 3
  | .stop => 4

/-- The current page is sealed (R102, steps 1 to 5); nothing without one. -/
def State.sealPage (s : State) (cause : SealCause) : State :=
  match s.pages.current with
  | none => s
  | some p =>
    let header := (s.window.write (pageBase p + 7) cause.code).writeBytes (pageBase p + 12) (wordBytes s.run.stamp)
    let entry := (header.writeBytes (entryBase p + 1) (s.recordCount p :: halfBytes (lowHalf (s.pageSeq p)))).write
      (entryBase p) pageSealed
    ({ s with
      window := entry
      pages := { s.pages with current := none, sealTimer := 0, sealed := s.pages.sealed + 1,
                              lastSealed := s.pageSeq p } }).raise .sealed

/-- The head of the trip queue is removed: records written rises, and the place freed takes the OVERRUN record of an
open episode (R82, R84). -/
def State.removeHead (s : State) : State :=
  (s.setRecords { s.records with queue := s.records.queue.tail, written := s.records.written + 1 }).placeOverrun

/-- The head of the trip queue goes into the current page; the 15th record seals it FULL (R82, R84, R100). -/
def State.takeHead (s : State) (p : PageNo) (r : Record) : State :=
  let taken := (s.placeRecord p r).removeHead
  if taken.recordCount p = 15 then taken.sealPage .full else taken

/-- While records wait: the head goes into the current page, or, with none held, an acquisition is attempted; a search
that finds no FREE page ends it (R81, R97, R99, R100). -/
def State.pumpLoop : Nat → State → State
  | 0, s => s
  | fuel + 1, s =>
    match s.records.queue with
    | [] => s
    | r :: _ =>
      match s.pages.current with
      | some p => State.pumpLoop fuel (s.takeHead p r)
      | none =>
        match s.searchPage with
        | some p => State.pumpLoop fuel (s.openPage p)
        | none => s

/-- The Page Writer's attempt at an append, a frame expiry or a seal (R97). The bound covers every record waiting, a
page opened for each and an OVERRUN record. -/
def State.pump (s : State) : State := s.pumpLoop (2 * s.records.queue.length + 4)

/-- A seal with the attempt that ends it (R102, steps 1 to 6). -/
def State.closePage (s : State) (cause : SealCause) : State := (s.sealPage cause).pump

/-- The flags a record calls for at generation (R86, R170). -/
def State.raiseFor (s : State) (r : Record) : State :=
  let tripped := if s.alerts.level.toNat < r.cls.val then s.raise .trip else s
  match r.kind with
  | .chainFault => tripped.raise .chain
  | .chainLost => tripped.raise .chain
  | .diverge => tripped
  | .returns => tripped
  | .step => tripped
  | .chainRecovered => tripped
  | .overrun => tripped

/-- A record is generated: counted, its flags set, then appended or dropped (R79). -/
def State.generate (s : State) (r : Record) : State :=
  let counted := (s.setRecords { s.records with generated := s.records.generated + 1 }).raiseFor r
  if s.records.queue.length < tripQueueSize then (counted.appendRecord r).pump else counted.dropRecord

/-! ## The Page Writer's frame work (R101) -/

/-- The seal timer advances and seals the current page at the seal delay (R101). -/
def State.advanceSealTimer (s : State) : State :=
  let advanced := s.setPages { s.pages with sealTimer := s.pages.sealTimer + 1 }
  match s.run.geometry with
  | some g => if s.pages.sealTimer + 1 = g.sealDelay then advanced.closePage .timer else advanced
  | none => advanced

/-- The Page Writer's own work at a frame expiry: the seal timer of a page held, else the acquisition attempt (R101). -/
def State.pageWriterWork (s : State) : State :=
  let begun := s.setFrame { s.frame with pageWork := false }
  if s.pages.current.isSome then begun.advanceSealTimer else begun.pump

/-- The Page Writer's work of a frame expiry already taken, if it is outstanding. -/
def State.finishPageWork (s : State) : State := if s.frame.pageWork then s.pageWriterWork else s

/-! ## The end of a drain (R159) -/

/-- The drain ends: the current page is sealed STOP, STOPPED is set, the timer stops, the run is IDLE. -/
def State.drainEnd (s : State) : State :=
  let closed := (s.closePage .stop).raise .stopped
  { closed with run := { closed.run with state := .idle, frameTimer := none }, frame := FrameWork.empty }

/-- The drain-end test: in DRAINING, with the reader idle and the trip queue empty, the drain ends. The Page Writer's work
of a frame expiry taken before is made first, so a TIMER seal that is due falls (R161); it leaves the queue empty. -/
def State.drainTest (s : State) : State :=
  if s.run.state = .draining && s.read.isNone && s.records.queue.isEmpty then s.finishPageWork.drainEnd else s

/-! ## Answers (R119, R120) -/

/-- Result codes (R120). -/
inductive Result where
  | ok
  | badKind
  | range
  | noGroup
  | conflict
  | chainOff
  | chainLost
  | chainFault
  | stopped
  | reset
  deriving DecidableEq, Repr

/-- The code of a result (R120). -/
def Result.code : Result → Byte
  | .ok => 0x00
  | .badKind => 0x01
  | .range => 0x02
  | .noGroup => 0x03
  | .conflict => 0x04
  | .chainOff => 0x05
  | .chainLost => 0x06
  | .chainFault => 0x07
  | .stopped => 0x08
  | .reset => 0x09

/-- What an answer carries: result, detail and the payload bytes its kind fills. -/
structure Answer where
  result : Result
  detail : Byte
  payload : List Byte
  deriving DecidableEq, Repr

/-- An answer with detail 0 and no payload. -/
def Answer.plain (r : Result) : Answer := { result := r, detail := 0, payload := [] }

/-- Sixteen payload bytes; bytes the kind does not fill are 0 (R119, step 3). -/
def payloadBytes (bs : List Byte) : List Byte := (bs ++ List.replicate 16 0).take 16

/-- Slot bytes 16 to 47 of an answer (R119, R183). -/
def State.answerBytes (s : State) (a : Answer) : List Byte :=
  [a.result.code, a.detail, 0, 0] ++ wordBytes s.run.stamp ++ payloadBytes a.payload ++ List.replicate 8 0

/-- A parameter byte of a request, counted from the first parameter byte (R129). -/
def Request.param (r : Request) (i : Nat) : Nat := (r.params.getD i 0).toNat

/-- The chain a request of a chain kind names, its first parameter (R131, R136, R140). -/
def Request.chain (r : Request) : ChainNo := Fin.ofNat 16 (r.param 0)

/-- The slots on a chain's list. -/
def WaitList.slots : WaitList → List SlotNo
  | .reads l => l
  | .deferred k => [k]

/-- A slot leaves a chain's list. -/
def WaitList.remove (w : WaitList) (k : SlotNo) : WaitList :=
  match w with
  | .reads l => .reads (l.filter (· != k))
  | .deferred d => if d = k then .reads [] else .deferred d

/-- The held request of a slot of the taken set (R118). -/
def State.heldOf (s : State) (k : SlotNo) : Option Request :=
  (s.requests.taken.find? fun h => h.slot == k).map Held.request

/-- The slot leaves the list it stands on: that of the chain its request names (R3). -/
def State.unlist (s : State) (k : SlotNo) : State :=
  match s.heldOf k with
  | some r => s.modChain r.chain fun c => { c with waiting := c.waiting.remove k }
  | none => s

/-- The window with a slot's answer: bytes 16 to 47, then the owner code ANSWERED (R119, steps 1 to 5). -/
def State.answeredWindow (s : State) (k : SlotNo) (a : Answer) : Memory :=
  (s.window.writeBytes (slotBase k + 16) (s.answerBytes a)).write (slotBase k) slotAnswered

/-- An answer closes one request in one event (R119). -/
def State.answer (s : State) (k : SlotNo) (a : Answer) : State :=
  let freed := s.unlist k
  ({ freed with
    window := s.answeredWindow k a
    requests := { s.requests with taken := s.requests.taken.filter fun h => h.slot != k } }).raise .answer

/-- Several requests answered alike, in the order of the list. -/
def State.answerAll (s : State) (ks : List SlotNo) (a : Answer) : State := ks.foldl (fun t k => t.answer k a) s

/-! ## The warm set (R4 to R11) -/

/-- A chain record out of the warm set, in the state given: timer discarded (R12), idle frames 0. -/
def ChainRec.chilled (r : ChainRec) (cs : ChainState) : ChainRec :=
  { r with state := cs, settle := none, stale := r.stale || r.settle == some 0, idle := 0 }

/-- A chain leaves the warm set, or stays out of it, in the state given, out of the LRU order too. The output follows the
state (R4). -/
def State.chill (s : State) (c : ChainNo) (cs : ChainState) : State :=
  let cooled := s.modChain c fun r => r.chilled cs
  { cooled with lru := s.lru.filter (· != c) }

/-- A chain leaves the due queue, if present (R34). -/
def State.leaveDue (s : State) (c : ChainNo) : State := { s with due := s.due.filter (· != c) }

/-- The eligible victims (R7). -/
def State.eligible (s : State) (c : ChainNo) : Bool :=
  (s.chain c).state == .warm && !(s.chain c).defn.pinned && !(s.due.contains c)

/-- The least recent eligible victim (R7). -/
def State.victim (s : State) : Option ChainNo := s.lru.find? s.eligible

/-- The COLD chain that stands earliest in the due queue (R9). -/
def State.dueCold (s : State) : Option ChainNo := s.due.find? fun c => (s.chain c).state == .cold

/-- A chain is granted excitation (R11). -/
def State.excite (s : State) (c : ChainNo) : State :=
  s.modChain c fun r => { r with state := .settling, settle := some (Config.cyclesPerSettleUnit * r.defn.settleTime) }

/-- One grant, if one of the conditions of R9 holds. -/
def State.grantOne (s : State) : Option State :=
  match s.dueCold with
  | none => none
  | some c =>
    if s.warmCount < s.warmLimit then some (s.excite c)
    else
      match s.victim with
      | none => none
      | some v => some ((s.chill v .cold).excite c)

/-- Grants made one after another while a condition holds (R9). -/
def State.grantLoop : Nat → State → State
  | 0, s => s
  | fuel + 1, s =>
    match s.grantOne with
    | none => s
    | some t => State.grantLoop fuel t

/-- The grant test (R10). Sixteen rounds suffice: a victim is not due, so each grant leaves one COLD due chain less. -/
def State.grantTest (s : State) : State := s.grantLoop 16

/-! ## The reader's choice and joins (R33, R36, R37) -/

/-- The WARM chain that stands earliest in the due queue (R36). -/
def State.dueWarm (s : State) : Option ChainNo := s.due.find? fun c => (s.chain c).state == .warm

/-- A read starts (R37). -/
def State.startRead (s : State) (g : Geometry) (c : ChainNo) : State :=
  let begun := s.modChain c fun r => { r with state := .reading }
  { begun with
    lru := s.lru.filter (· != c)
    due := s.due.filter (· != c)
    read := some { chain := c, length := (s.chain c).defn.length, bitTime := Config.cyclesPerBit g.shiftCode,
                   attached := (s.chain c).waiting.slots, received := [], loading := true, clockHigh := false,
                   elapsed := 0 } }

/-- The idle reader's choice (R36). No read can start while no geometry is in force (R52). -/
def State.readerChoice (s : State) : State :=
  match s.read, s.run.geometry, s.dueWarm with
  | none, some g, some c => s.startRead g c
  | _, _, _ => s

/-- A chain joins the due queue; a COLD one brings the grant test, a WARM one the reader's choice (R33). -/
def State.joinDue (s : State) (c : ChainNo) : State :=
  if s.due.contains c then s
  else
    let joined := { s with due := s.due ++ [c] }
    match (s.chain c).state with
    | .cold => joined.grantTest
    | .warm => joined.readerChoice
    | .off => joined
    | .settling => joined
    | .reading => joined
    | .lost => joined

/-! ## Reconfiguration, park, loss (R19, R22, R23, R58) -/

/-- A group whose chain is unprimed (R58). -/
def GroupRec.unprimed (g : GroupRec) : GroupRec := { g with state := .unset, last := 0 }

/-- A chain is unprimed and its groups go UNSET (R58). -/
def State.unprime (s : State) (c : ChainNo) : State :=
  let cleared := s.setImage c Image.reset
  { cleared with
    groups := Vector.ofFn fun i => if s.groups[i].defined && s.groups[i].chain == c then s.groups[i].unprimed
                                   else s.groups[i] }

/-- A chain's period expiry of the current frame expiry is not taken any more (R28). -/
def State.cancelExpiry (s : State) (c : ChainNo) : State :=
  s.setFrame { s.frame with expiries := s.frame.expiries.filter (· != c) }

/-- The record of a chain just reconfigured (R22, steps 1, 2, 4 and 6). -/
def ChainRec.reconfigured (r : ChainRec) (d : ChainDef) : ChainRec :=
  { r with defn := d, state := if d.enabled then .cold else .off, faultRun := 0, late := 0, reads := 0, idle := 0,
           lastRead := 0, settle := none, periodCounter := if d.enabled then 1 else 0 }

/-- Reconfiguration (R22). -/
def State.reconfigure (s : State) (c : ChainNo) (d : ChainDef) : State :=
  let installed := ((((s.chill c .off).leaveDue c).modChain c fun r => r.reconfigured d).unprime c).cancelExpiry c
  if (s.chain c).state.excited then installed.grantTest else installed

/-- Park (R23). -/
def State.park (s : State) (c : ChainNo) : State :=
  let parked := (s.chill c .cold).leaveDue c
  if (s.chain c).state.excited then parked.grantTest else parked

/-- Entry into LOST (R19): out of the warm set and the due queue, its period not counted any more. That its idle frames are
cleared, on which R19 is silent, is the model's choice (log entry 26). -/
def State.enterLost (s : State) (c : ChainNo) : State :=
  (((s.chill c .lost).leaveDue c).modChain c fun r => { r with periodCounter := 0 }).cancelExpiry c

end Sys2Proof.Machine
end

