-- ==== Sys2Proof/Machine/Filter.lean ====
section
/-! DEFINITION. The Point Filter and the Group Evaluator (03). -/

namespace Sys2Proof.Machine

open Sys2Proof

/-- A point position of an image; positions past 127 do not exist and read 0. -/
def Image.point (i : Image) (k : Nat) : Point := if h : k < 128 then i.points[k] else Point.reset

/-- One point of a primed chain through its debounce (R56). -/
def Point.debounce (p : Point) (depth : Nat) (raw : Bool) : Point :=
  if raw = p.filtered then { raw := raw, filtered := p.filtered, counter := 0 }
  else if p.counter + 1 < depth then { raw := raw, filtered := p.filtered, counter := p.counter + 1 }
  else { raw := raw, filtered := raw, counter := 0 }

/-- One point of a priming read (R55). -/
def Point.prime (raw : Bool) : Point := { raw := raw, filtered := raw, counter := 0 }

/-- The image after a good read of `length` points (R54): primed by it, or debounced. -/
def Image.filter (i : Image) (length depth : Nat) (bits : List Bool) : Image :=
  { points := Vector.ofFn fun k =>
      if k.val < length then
        (if i.primed then i.points[k].debounce depth (bits.getD k.val false) else Point.prime (bits.getD k.val false))
      else i.points[k]
    primed := true }

/-- Sixteen bits from a predicate of the position. -/
def bitsOf (width : Nat) (f : Nat → Bool) : Half :=
  (List.range width).foldl (fun v k => if f k then v ||| (1#16 <<< k) else v) 0

/-- A group's masked value (R60). -/
def GroupRec.masked (g : GroupRec) (i : Image) : Half :=
  bitsOf g.width (fun k => (i.point (g.base + k)).filtered) &&& g.mask

/-- CONFORM or DIVERGED for a masked value (R60). -/
def GroupRec.judge (g : GroupRec) (value : Half) : GroupState :=
  if value = g.compare &&& g.mask then .conform else .diverged

/-- The record kind of an evaluation that is a trip, by the group's mode (R64). -/
def GroupRec.tripKind (g : GroupRec) (value : Half) : Option RecordKind :=
  let toDiverged := g.state == .conform && g.judge value == .diverged
  let toConform := g.state == .diverged && g.judge value == .conform
  match g.mode with
  | .diverge => if toDiverged then some .diverge else none
  | .returns => if toConform then some .returns else none
  | .both => if toDiverged then some .diverge else if toConform then some .returns else none
  | .step => if g.state != .unset && value != g.last then some .step else none

/-- A silent evaluation: the state and last value only (R63). -/
def GroupRec.settleOn (g : GroupRec) (value : Half) : GroupRec := { g with state := g.judge value, last := value }

/-- A group's record with its trip counted (R65). -/
def GroupRec.tripped (g : GroupRec) (stamp : Word) : GroupRec :=
  { g with trips := g.trips + 1, lastTrip := lowHalf stamp }

/-- A trip record; the Record Unit gives it its sequence (R65). -/
def tripRecord (kind : RecordKind) (n : GroupNo) (g : GroupRec) (value : Half) (stamp : Word) : Record :=
  { seq := 0, kind := kind, cls := g.cls, chain := some g.chain, group := some n, before := g.last, after := value,
    detail := g.trips + 1, stamp := stamp }

/-- One group is evaluated after a good read of its chain (R62): a trip is generated before its state and last value
are updated. -/
def State.evaluateGroup (s : State) (n : GroupNo) : State :=
  let g := s.group n
  let value := g.masked (s.image g.chain)
  match g.tripKind value with
  | none => s.setGroup n (g.settleOn value)
  | some kind =>
    let told := (s.setGroup n (g.tripped s.run.stamp)).generate (tripRecord kind n g value s.run.stamp)
    told.setGroup n ((g.tripped s.run.stamp).settleOn value)

/-- Every defined group of a chain is evaluated, in ascending group number (R44). -/
def State.evaluateChain (s : State) (c : ChainNo) : State :=
  allGroups.foldl (fun t n => if (t.group n).defined && (t.group n).chain == c then t.evaluateGroup n else t) s

/-- The filter-and-evaluate stage of a good read (R44, R54). -/
def State.filterRead (s : State) (rd : ReadInProgress) : State :=
  let filtered := (s.image rd.chain).filter rd.length (s.chain rd.chain).defn.depth rd.received
  (s.setImage rd.chain filtered).evaluateChain rd.chain

/-- The points of an image in the bytes of a payload: point k in byte k/8, bit k mod 8 (R138). -/
def Image.bytes (i : Image) (pick : Point → Bool) : List Byte :=
  (List.range 16).map fun j => (bitsOf 8 fun b => pick (i.point (8 * j + b))).setWidth 8

end Sys2Proof.Machine
end

