-- ==== Sys2Proof/Machine/Operands.lean ====
section
/-! DEFINITION. The request kinds' parameters: where they stand, their ranges, and the values they carry (07, R183). -/

namespace Sys2Proof.Machine

open Sys2Proof

/-- The seven request kinds (07). -/
inductive Kind where
  | setChain
  | readChain
  | parkChain
  | setGroup
  | rearmGroup
  | dropGroup
  | flush
  deriving DecidableEq, Repr

/-- The kind a kind byte names, if any (R128). -/
def kindOf (b : Byte) : Option Kind :=
  if b = 0x01 then some .setChain
  else if b = 0x02 then some .readChain
  else if b = 0x03 then some .parkChain
  else if b = 0x04 then some .setGroup
  else if b = 0x05 then some .rearmGroup
  else if b = 0x06 then some .dropGroup
  else if b = 0x07 then some .flush
  else none

/-- The host part of a slot as it stands (R117, R183). -/
def State.readRequest (s : State) (k : SlotNo) : Request :=
  { kind := s.window.read (slotBase k + 1), tag := s.window.half (slotBase k + 2),
    params := s.window.readBytes (slotBase k + 4) 12 }

/-- A 16-bit parameter, least significant byte first (R129). -/
def Request.param16 (r : Request) (i : Nat) : Half := halfOf (r.params.getD i 0) (r.params.getD (i + 1) 0)

/-- One parameter with the ends of its range. -/
structure Ranged where
  value : Nat
  low : Nat
  high : Nat
  deriving DecidableEq, Repr

/-- The number of the first parameter out of its range, counting from `n` (R129). -/
def firstOutOfRange : Nat → List Ranged → Option Nat
  | _, [] => none
  | n, p :: rest => if p.low ≤ p.value && p.value ≤ p.high then firstOutOfRange (n + 1) rest else some n

/-- SET_CHAIN's parameters and ranges (R131). -/
def Request.setChainRanges (r : Request) : List Ranged :=
  [⟨r.param 0, 0, 15⟩, ⟨r.param 1, 0, 1⟩, ⟨r.param 2, 1, 16⟩, ⟨r.param 3, 1, 255⟩, ⟨r.param 4, 1, 8⟩,
   ⟨r.param 5, 0, 255⟩, ⟨r.param 6, 0, 255⟩, ⟨r.param 7, 1, 7⟩, ⟨r.param 8, 0x01, 0xFE⟩, ⟨r.param 9, 0, 1⟩]

/-- The definition a SET_CHAIN carries (R131). -/
def Request.chainDef (r : Request) : ChainDef :=
  { enabled := r.param 1 == 1, length := 8 * r.param 2, settleTime := r.param 3, depth := r.param 4,
    period := r.param 5, coolDown := r.param 6, faultLimit := r.param 7, checkPattern := r.params.getD 8 0,
    pinned := r.param 9 == 1 }

/-- READ_CHAIN's parameters and ranges (R136). -/
def Request.readChainRanges (r : Request) : List Ranged := [⟨r.param 0, 0, 15⟩, ⟨r.param 1, 0, 1⟩]

/-- Form FILTERED of a READ_CHAIN (R136). -/
def Request.filteredForm (r : Request) : Bool := r.param 1 == 1

/-- PARK_CHAIN's parameter and range (R140). -/
def Request.parkChainRanges (r : Request) : List Ranged := [⟨r.param 0, 0, 15⟩]

/-- SET_GROUP's parameters and ranges (R142). -/
def Request.setGroupRanges (r : Request) : List Ranged :=
  [⟨r.param 0, 0, 63⟩, ⟨r.param 1, 0, 15⟩, ⟨r.param 2, 0, 127⟩, ⟨r.param 3, 1, 16⟩, ⟨r.param 4, 0, 3⟩,
   ⟨r.param 5, 0, 3⟩, ⟨(r.param16 6).toNat, 0, 0xFFFF⟩, ⟨(r.param16 8).toNat, 0, 0xFFFF⟩]

/-- The group a request of a group kind names, its first parameter (R142, R145, R147). -/
def Request.group (r : Request) : GroupNo := Fin.ofNat 64 (r.param 0)

/-- The mode of a code (R59). -/
def modeOf : Nat → Mode
  | 0 => .diverge
  | 1 => .returns
  | 2 => .both
  | _ => .step

/-- The group record a SET_GROUP installs, before any evaluation (R66, steps 1 and 2). -/
def Request.groupRec (r : Request) : GroupRec :=
  { defined := true, chain := Fin.ofNat 16 (r.param 1), base := r.param 2, width := r.param 3, mask := r.param16 6,
    compare := r.param16 8, mode := modeOf (r.param 4), cls := Fin.ofNat 4 (r.param 5), state := .unset, last := 0,
    trips := 0, lastTrip := 0 }

/-- REARM_GROUP's parameters and ranges (R145). -/
def Request.rearmRanges (r : Request) : List Ranged := [⟨r.param 0, 0, 63⟩, ⟨(r.param16 1).toNat, 0, 0xFFFF⟩]

/-- DROP_GROUP's parameter and range (R147). -/
def Request.dropRanges (r : Request) : List Ranged := [⟨r.param 0, 0, 63⟩]

/-- A 1 at a bit position not less than the width (R143, R145). -/
def bitsBeyond (h : Half) (width : Nat) : Bool := h >>> width != 0

/-- A refusal at take: result and detail (R120). -/
def refusal (result : Result) (detail : Nat) : Answer :=
  { result := result, detail := BitVec.ofNat 8 detail, payload := [] }

/-- The refusal of a parameter out of range, if there is one (R129). -/
def rangeRefusal (ps : List Ranged) : Option Answer := (firstOutOfRange 1 ps).map (refusal .range)

end Sys2Proof.Machine
end

