-- ==== Sys2Proof/Machine/Request.lean ====
section
/-! DEFINITION. The Request Engine's takes and the eight kinds of take: SET_CHAIN, READ_CHAIN, PARK_CHAIN, SET_GROUP,
REARM_GROUP, DROP_GROUP, FLUSH, BAD_KIND (06, 07). -/

namespace Sys2Proof.Machine

open Sys2Proof

/-! ## Checks that read the part (R130) -/

/-- A waiting READ_CHAIN on the chain, or a deferred marker (R130). -/
def WaitList.busy : WaitList → Bool
  | .reads l => !l.isEmpty
  | .deferred _ => true

/-- A deferred marker on the chain (R130). -/
def WaitList.marked : WaitList → Bool
  | .reads _ => false
  | .deferred _ => true

/-- The deferred SET_CHAIN held on a chain's list, if any. -/
def State.deferredSetChain (s : State) (c : ChainNo) : Option Request :=
  match (s.chain c).waiting with
  | .reads _ => none
  | .deferred k => (s.heldOf k).filter fun r => kindOf r.kind == some .setChain

/-- A chain counts as pinned for the pin check: its pinned field is 1, or it carries a deferred SET_CHAIN whose pin
parameter is 1 (R133). -/
def State.countsPinned (s : State) (c : ChainNo) : Bool :=
  (s.chain c).defn.pinned ||
    match s.deferredSetChain c with
    | some r => r.chainDef.pinned
    | none => false

/-- The pinned count of the chains other than one (R133). -/
def State.othersPinned (s : State) (c : ChainNo) : Nat := allChains.countP fun d => d != c && s.countsPinned d

/-- The lowest defined group of a chain that reaches beyond a length (R132, check 2). -/
def State.groupBeyond (s : State) (c : ChainNo) (length : Nat) : Option GroupNo :=
  allGroups.find? fun n => (s.group n).defined && (s.group n).chain == c && length < (s.group n).base + (s.group n).width

/-- The first refusal of a list of checks in order (R129). -/
def firstRefusal : List (Option Answer) → Option Answer
  | [] => none
  | none :: rest => firstRefusal rest
  | some a :: _ => some a

/-- A check that fails when its condition holds. -/
def failWhen (b : Bool) (a : Answer) : Option Answer := if b then some a else none

/-- SET_CHAIN's checks in order (R131, R132). -/
def State.checkSetChain (s : State) (r : Request) : Option Answer :=
  firstRefusal
    [rangeRefusal r.setChainRanges,
     failWhen (r.chainDef.pinned && s.warmLimit - 1 ≤ s.othersPinned r.chain) (refusal .range 10),
     (s.groupBeyond r.chain r.chainDef.length).map fun n => refusal .conflict n.val,
     failWhen (s.chain r.chain).waiting.busy (refusal .conflict 0xFF)]

/-- READ_CHAIN's checks in order (R136). -/
def State.checkReadChain (s : State) (r : Request) : Option Answer :=
  firstRefusal
    [rangeRefusal r.readChainRanges,
     failWhen ((s.chain r.chain).state == .off) (refusal .chainOff 0),
     failWhen ((s.chain r.chain).state == .lost) (refusal .chainLost 0),
     failWhen (s.chain r.chain).waiting.marked (refusal .conflict 0xFF)]

/-- PARK_CHAIN's checks in order (R140). -/
def State.checkParkChain (s : State) (r : Request) : Option Answer :=
  firstRefusal
    [rangeRefusal r.parkChainRanges,
     failWhen ((s.chain r.chain).state == .off) (refusal .chainOff 0),
     failWhen ((s.chain r.chain).state == .lost) (refusal .chainLost 0),
     failWhen (s.chain r.chain).waiting.busy (refusal .conflict 0xFF)]

/-- The lengths a new group must fit: the chain's, and the one a deferred SET_CHAIN will install (R143). -/
def State.lengthsToFit (s : State) (c : ChainNo) : List Nat :=
  (s.chain c).defn.length :: (match s.deferredSetChain c with
    | some r => [r.chainDef.length]
    | none => [])

/-- SET_GROUP's checks in order (R142, R143). -/
def State.checkSetGroup (s : State) (r : Request) : Option Answer :=
  let g := r.groupRec
  firstRefusal
    [rangeRefusal r.setGroupRanges,
     failWhen ((s.chain g.chain).state == .off) (refusal .chainOff 0),
     failWhen ((s.lengthsToFit g.chain).any fun l => l ≤ g.base) (refusal .range 3),
     failWhen ((s.lengthsToFit g.chain).any fun l => l < g.base + g.width) (refusal .range 4),
     failWhen (bitsBeyond g.mask g.width) (refusal .range 7),
     failWhen (bitsBeyond g.compare g.width) (refusal .range 8)]

/-- REARM_GROUP's checks in order (R145). -/
def State.checkRearm (s : State) (r : Request) : Option Answer :=
  firstRefusal
    [rangeRefusal r.rearmRanges,
     failWhen (!(s.group r.group).defined) (refusal .noGroup 0),
     failWhen (bitsBeyond (r.param16 1) (s.group r.group).width) (refusal .range 2)]

/-- DROP_GROUP's checks in order (R147). -/
def State.checkDrop (s : State) (r : Request) : Option Answer :=
  firstRefusal [rangeRefusal r.dropRanges, failWhen (!(s.group r.group).defined) (refusal .noGroup 0)]

/-! ## The kinds' actions at take -/

/-- A deferred marker is placed on a chain's list (R21). -/
def State.deferOn (s : State) (c : ChainNo) (k : SlotNo) : State :=
  s.modChain c fun r => { r with waiting := .deferred k }

/-- SET_CHAIN at its take (R134, R135). -/
def State.actSetChain (s : State) (k : SlotNo) (r : Request) : State :=
  match s.checkSetChain r with
  | some a => s.answer k a
  | none =>
    if (s.chain r.chain).state = .reading then s.deferOn r.chain k
    else (s.reconfigure r.chain r.chainDef).answer k (Answer.plain .ok)

/-- A slot joins the end of a chain's list (R137, step 1). -/
def WaitList.push (w : WaitList) (k : SlotNo) : WaitList :=
  match w with
  | .reads l => .reads (l ++ [k])
  | .deferred d => .deferred d

/-- READ_CHAIN at its take (R137). -/
def State.actReadChain (s : State) (k : SlotNo) (r : Request) : State :=
  match s.checkReadChain r with
  | some a => s.answer k a
  | none => (s.modChain r.chain fun c => { c with waiting := c.waiting.push k }).joinDue r.chain

/-- PARK_CHAIN at its take (R141). -/
def State.actParkChain (s : State) (k : SlotNo) (r : Request) : State :=
  match s.checkParkChain r with
  | some a => s.answer k a
  | none =>
    if (s.chain r.chain).state = .reading then s.deferOn r.chain k
    else (s.park r.chain).answer k (Answer.plain .ok)

/-- Definition: the group record installed whole, set silently if its chain is primed (R66). -/
def State.define (s : State) (r : Request) : State :=
  let g := r.groupRec
  if (s.image g.chain).primed then s.setGroup r.group (g.settleOn (g.masked (s.image g.chain)))
  else s.setGroup r.group g

/-- SET_GROUP at its take (R144). -/
def State.actSetGroup (s : State) (k : SlotNo) (r : Request) : State :=
  match s.checkSetGroup r with
  | some a => s.answer k a
  | none => (s.define r).answer k (Answer.plain .ok)

/-- A group re-armed: its state recomputed from the unchanged last value, unless it is UNSET (R67). -/
def GroupRec.rearmed (g : GroupRec) (compare : Half) : GroupRec :=
  let replaced := { g with compare := compare }
  match g.state with
  | .unset => replaced
  | .conform => { replaced with state := replaced.judge g.last }
  | .diverged => { replaced with state := replaced.judge g.last }

/-- REARM_GROUP at its take (R146). -/
def State.actRearm (s : State) (k : SlotNo) (r : Request) : State :=
  match s.checkRearm r with
  | some a => s.answer k a
  | none => (s.setGroup r.group ((s.group r.group).rearmed (r.param16 1))).answer k (Answer.plain .ok)

/-- DROP_GROUP at its take (R68, R147). -/
def State.actDrop (s : State) (k : SlotNo) (r : Request) : State :=
  match s.checkDrop r with
  | some a => s.answer k a
  | none => (s.setGroup r.group GroupRec.reset).answer k (Answer.plain .ok)

/-- FLUSH at its take: the flush operation and its answer (R104, R148). -/
def State.actFlush (s : State) (k : SlotNo) : State :=
  match s.pages.current with
  | none => s.answer k (Answer.plain .ok)
  | some p => (s.closePage .flush).answer k { result := .ok, detail := 1, payload := wordBytes (s.pageSeq p) }

/-- A request of no kind at its take (R128). -/
def State.actBadKind (s : State) (k : SlotNo) : State := s.answer k (refusal .badKind 0)

/-! ## The take and the sweep (R116, R117) -/

/-- The capacity of the taken set (R121). -/
def takenSetSize : Nat := 6

/-- The take up to its check: TAKEN written, the slot in the taken set with its request, the cursor moved (R117). -/
def State.beginTake (s : State) (k : SlotNo) : State :=
  { s with
    window := s.window.write (slotBase k) slotTaken
    requests := { taken := s.requests.taken ++ [{ slot := k, request := s.readRequest k }], cursor := k } }

/-- One take, whole: by the kind byte of the held request (R117, R128). -/
def State.takeSlot (s : State) (k : SlotNo) : State :=
  let r := s.readRequest k
  let begun := s.beginTake k
  match kindOf r.kind with
  | some .setChain => begun.actSetChain k r
  | some .readChain => begun.actReadChain k r
  | some .parkChain => begun.actParkChain k r
  | some .setGroup => begun.actSetGroup k r
  | some .rearmGroup => begun.actRearm k r
  | some .dropGroup => begun.actDrop k r
  | some .flush => begun.actFlush k
  | none => begun.actBadKind k

/-- The taken set has room (R116). -/
def State.hasRoom (s : State) : Bool := s.requests.taken.length < takenSetSize

/-- The sweep over the slots still to visit: POSTED slots are taken while there is room, a POSTED slot met without room
ends it, others are passed (R116). -/
def State.sweepOver : List SlotNo → State → State
  | [], s => s
  | k :: rest, s =>
    if s.slotOwner k = slotPosted then
      (if s.hasRoom then State.sweepOver rest (s.takeSlot k) else s)
    else State.sweepOver rest s

/-- The slots the outstanding sweep has still to visit, from the first that reads POSTED. -/
def State.toPosted (s : State) : List SlotNo := s.frame.sweep.dropWhile fun k => s.slotOwner k != slotPosted

/-- The sweep's next take, when the slot it reaches carries a request of the kind given and there is room; otherwise no
such take arises now (log entry 4). -/
def State.takeNext (s : State) (kind : Option Kind) : State :=
  match s.toPosted with
  | [] => s
  | k :: rest =>
    if s.hasRoom && kindOf (s.readRequest k).kind == kind then
      (s.setFrame { s.frame with sweep := rest }).takeSlot k
    else s

/-! ## The meanings -/

/-- SET_CHAIN (R131 to R135): the sweep's next take, of a SET_CHAIN request. -/
def execSetChain (s : State) : Host.Outcome State Fault Refusal := .next (s.takeNext (some .setChain))

/-- READ_CHAIN (R136, R137). -/
def execReadChain (s : State) : Host.Outcome State Fault Refusal := .next (s.takeNext (some .readChain))

/-- PARK_CHAIN (R140, R141). -/
def execParkChain (s : State) : Host.Outcome State Fault Refusal := .next (s.takeNext (some .parkChain))

/-- SET_GROUP (R142 to R144). -/
def execSetGroup (s : State) : Host.Outcome State Fault Refusal := .next (s.takeNext (some .setGroup))

/-- REARM_GROUP (R145, R146). -/
def execRearmGroup (s : State) : Host.Outcome State Fault Refusal := .next (s.takeNext (some .rearmGroup))

/-- DROP_GROUP (R147). -/
def execDropGroup (s : State) : Host.Outcome State Fault Refusal := .next (s.takeNext (some .dropGroup))

/-- FLUSH (R148). -/
def execFlush (s : State) : Host.Outcome State Fault Refusal := .next (s.takeNext (some .flush))

/-- BAD_KIND (R128). -/
def execBadKind (s : State) : Host.Outcome State Fault Refusal := .next (s.takeNext none)

end Sys2Proof.Machine
end

