-- ==== Sys2Proof/Machine/Chain.lean ====
section
/-! DEFINITION. Settle completion, excitation grant, and the read: start, bit times, completion (01, 02). -/

namespace Sys2Proof.Machine

open Sys2Proof

/-! ## Settling, granting, starting -/

/-- A chain settles: SETTLING to WARM, most recent in the LRU order, then the reader's choice (R11, R36). -/
def State.settled (s : State) (c : ChainNo) : State :=
  let warmed := s.modChain c fun r => { r with state := .warm, settle := none, idle := 0 }
  ({ warmed with lru := s.lru ++ [c] }).readerChoice

/-- SETTLE_COMPLETION (R11): of a chain that is SETTLING; in any other state the timer holds nothing (R1). One that waited
while its settle was abandoned stands for nothing, though the chain settle anew (R12). -/
def execSettleCompletion (c : ChainNo) (s : State) : Host.Outcome State Fault Refusal :=
  if (s.chain c).stale then .next (s.modChain c fun r => { r with stale := false })
  else if (s.chain c).state = .settling then .next (s.settled c)
  else .next s

/-- EXCITATION_GRANT (R9): one grant, when one of its conditions holds. -/
def execExcitationGrant (s : State) : Host.Outcome State Fault Refusal :=
  match s.grantOne with
  | some t => .next t
  | none => .next s

/-- READ_START (R37): the idle reader starts the read of the earliest WARM chain in the due queue (R36). -/
def execReadStart (s : State) : Host.Outcome State Fault Refusal := .next s.readerChoice

/-! ## Bit times (R39) -/

/-- A bit time: the load ends, or the rising edge of CCLK samples the data input of the chain being read. -/
def ReadInProgress.bit (rd : ReadInProgress) (inputs : BitVec 16) : ReadInProgress :=
  if rd.loading then { rd with loading := false, clockHigh := false, elapsed := rd.bitTime }
  else if rd.received.length < rd.length + 8 then
    { rd with received := rd.received ++ [inputs.getLsbD rd.chain.val], clockHigh := true,
              elapsed := rd.bitTime * (rd.received.length + 1) + rd.bitTime / 2 }
  else rd

/-- BIT_TIME (R39) of the read in progress, if there is one. -/
def execBitTime (inputs : BitVec 16) (s : State) : Host.Outcome State Fault Refusal :=
  match s.read with
  | some rd => .next { s with read := some (rd.bit inputs) }
  | none => .next s

/-! ## Read completion (R42) -/

/-- Every bit of the read has been received (R39, R40). -/
def ReadInProgress.whole (rd : ReadInProgress) : Bool := !rd.loading && rd.received.length == rd.length + 8

/-- The check octet: the bits sampled after the points, bit 0 first (R39). -/
def ReadInProgress.octet (rd : ReadInProgress) : Byte :=
  (bitsOf 8 fun b => rd.received.getD (rd.length + b) false).setWidth 8

/-- Stage 1, the check (R43). -/
def State.readGood (s : State) (rd : ReadInProgress) : Bool := rd.octet == (s.chain rd.chain).defn.checkPattern

/-- Stage 2, the count (R43). -/
def State.countRead (s : State) (c : ChainNo) : State :=
  s.modChain c fun r => { r with reads := r.reads + 1, lastRead := lowHalf s.run.stamp }

/-- A chain record (R20); the Record Unit gives it its sequence. -/
def chainRecord (kind : RecordKind) (c : ChainNo) (detail : Nat) (stamp : Word) : Record :=
  { seq := 0, kind := kind, cls := 0, chain := some c, group := none, before := 0, after := 0,
    detail := BitVec.ofNat 16 detail, stamp := stamp }

/-- Stage 3 on a bad read (R17). -/
def State.badRead (s : State) (c : ChainNo) : State :=
  let run := (s.chain c).faultRun + 1
  let limit := (s.chain c).defn.faultLimit
  let counted := s.modChain c fun r => { r with faultRun := run }
  if limit ≤ run then (counted.generate (chainRecord .chainLost c limit s.run.stamp)).enterLost c
  else if run = 1 then counted.generate (chainRecord .chainFault c 1 s.run.stamp)
  else counted

/-- Stage 3 on a good read: a fault episode ends (R18). -/
def State.recover (s : State) (c : ChainNo) : State :=
  if (s.chain c).faultRun = 0 then s
  else
    (s.generate (chainRecord .chainRecovered c (s.chain c).faultRun s.run.stamp)).modChain c
      fun r => { r with faultRun := 0 }

/-- A read chain goes back to WARM, most recent in the LRU order (R15, case 6). -/
def State.backToWarm (s : State) (c : ChainNo) : State :=
  let warmed := s.modChain c fun r => { r with state := .warm, idle := 0 }
  { warmed with lru := s.lru ++ [c] }

/-- Cases 2, 5 and 6 of the hand-back, where no deferred marker stands on the list (R15). -/
def State.handBackPlain (s : State) (c : ChainNo) : State :=
  if (s.chain c).state = .lost then s
  else if s.run.state = .draining then s.chill c .cold
  else s.backToWarm c

/-- Cases 1 to 4 of the hand-back for a deferred marker (R15, R135, R141). -/
def State.handBackDeferred (s : State) (c : ChainNo) (k : SlotNo) (r : Request) : State :=
  if kindOf r.kind = some .setChain then (s.reconfigure c r.chainDef).answer k (Answer.plain .ok)
  else if (s.chain c).state = .lost then s.answer k (Answer.plain .chainLost)
  else (s.park c).answer k (Answer.plain .ok)

/-- Stage 5, the hand-back, and the grant test after it (R15). -/
def State.handBack (s : State) (c : ChainNo) : State :=
  match (s.chain c).waiting with
  | .reads _ => (s.handBackPlain c).grantTest
  | .deferred k =>
    match s.heldOf k with
    | some r => (s.handBackDeferred c k r).grantTest
    | none => (s.handBackPlain c).grantTest

/-- The answer of a READ_CHAIN served by a good read (R138). -/
def imageAnswer (i : Image) (length : Nat) (r : Request) : Answer :=
  { result := .ok, detail := BitVec.ofNat 8 (length / 8),
    payload := i.bytes (if r.filteredForm then Point.filtered else Point.raw) }

/-- The attached requests of a good read, answered in take order (R45). -/
def State.answerImages (s : State) (rd : ReadInProgress) (i : Image) : State :=
  rd.attached.foldl (fun t k =>
    match t.heldOf k with
    | some r => t.answer k (imageAnswer i rd.length r)
    | none => t) s

/-- The READ_CHAINs a read that made its chain LOST answers: the attached, then the others on the list (R45). -/
def State.lostReads (s : State) (rd : ReadInProgress) : List SlotNo :=
  rd.attached ++ (s.chain rd.chain).waiting.slots.filter fun k => !(rd.attached.contains k)

/-- Stages 3 and 4: the fault logic, then on a good read filter and evaluate (R42, R44). -/
def State.judgeRead (s : State) (rd : ReadInProgress) : State :=
  if s.readGood rd then (s.recover rd.chain).filterRead rd else s.badRead rd.chain

/-- Stage 6, the answers, by what stages 1 to 4 left in `judged` (R45). -/
def State.answerReads (s : State) (rd : ReadInProgress) (good : Bool) (judged : State) : State :=
  if good then s.answerImages rd (judged.image rd.chain)
  else if (judged.chain rd.chain).state = .lost then s.answerAll (s.lostReads rd) (Answer.plain .chainLost)
  else s.answerAll rd.attached
    { result := .chainFault, detail := BitVec.ofNat 8 (judged.chain rd.chain).faultRun, payload := [] }

/-- The seven stages of a read completion (R42), then the drain-end test (R159). -/
def State.completeRead (s : State) (rd : ReadInProgress) : State :=
  let counted := s.countRead rd.chain
  let judged := counted.judgeRead rd
  let answered := (judged.handBack rd.chain).answerReads rd (counted.readGood rd) judged
  ({ answered with read := none }).readerChoice.drainTest

/-- READ_COMPLETION (R42): when the last bit of the read in progress has been received (R39). -/
def execReadCompletion (s : State) : Host.Outcome State Fault Refusal :=
  match s.read with
  | some rd => if rd.whole then .next (s.completeRead rd) else .next s
  | none => .next s

end Sys2Proof.Machine
end

