-- ==== Sys2Proof/WellFormed.lean ====
section
/-! DEFINITION. Which terms of Instr are commands of the table. Chain numbers carry their range in their type. -/

namespace Sys2Proof

/-- The low bytes that name a command (R152). -/
def commandCodes : List Byte := [0x01, 0x02, 0xA5]

/-- A register write that is ignored: ID, STATUS, registers 5 to 255, or COMMAND with an unknown code (R152, R179). -/
def ignoredRegisterWrite (number : Byte) (value : Half) : Bool :=
  if number = 2 then !(commandCodes.contains (value.setWidth 8)) else number != 3 && number != 4

/-- No block is named twice: a block does its frame work once at a frame expiry (R156). -/
def blocksOnce : List FrameBlock → Bool
  | [] => true
  | b :: rest => !(rest.contains b) && blocksOnce rest

/-- Whether a term is a command of the table. -/
def Instr.wf : Instr → Bool
  | .hardReset => true
  | .nresetRise => true
  | .initEnd => true
  | .start _ => true
  | .stop _ => true
  | .softReset _ => true
  | .irqFlagsWrite _ => true
  | .irqEnableWrite _ => true
  | .registerWriteIgnored number value => ignoredRegisterWrite number value
  | .windowWrite _ _ => true
  | .windowRead _ => true
  | .frameExpiry order => blocksOnce order
  | .periodExpiry _ => true
  | .idleCoolDown _ => true
  | .timerSeal => true
  | .settleCompletion _ => true
  | .excitationGrant => true
  | .readStart => true
  | .readCompletion => true
  | .pageAcquisition => true
  | .overrunRecord => true
  | .drainEnd => true
  | .setChain => true
  | .readChain => true
  | .parkChain => true
  | .setGroup => true
  | .rearmGroup => true
  | .dropGroup => true
  | .flush => true
  | .badKind => true
  | .transactionBegin _ _ => true
  | .transactionEnd => true
  | .bitTime _ => true

end Sys2Proof
end

