-- ==== Sys2Proof/Machine/Frame.lean ====
section
/-! DEFINITION. The frame expiry and the blocks' frame work: period expiries, idle cool-down, the Page Writer's work, the
sweep (R13, R29, R101, R116, R156). -/

namespace Sys2Proof.Machine

open Sys2Proof

/-! ## Period expiries (R29, R30) -/

/-- The late count rises by one and holds at 65535 (R30). -/
def State.countLate (s : State) (c : ChainNo) : State :=
  s.modChain c fun r => { r with late := if r.late = 0xFFFF then 0xFFFF else r.late + 1 }

/-- A chain's period expiry acts: the chain joins the due queue, or counts late if it is there (R29, R33). -/
def State.periodExpired (s : State) (c : ChainNo) : State :=
  if s.due.contains c then s.countLate c else s.joinDue c

/-- The next period expiry outstanding is taken (R29). -/
def State.takeExpiry (s : State) (c : ChainNo) (rest : List ChainNo) : State :=
  (s.setFrame { s.frame with expiries := rest }).periodExpired c

/-- Every period expiry outstanding is taken, in ascending chain number (R29). -/
def State.takeExpiries (s : State) : State :=
  s.frame.expiries.foldl State.periodExpired (s.setFrame { s.frame with expiries := [] })

/-- PERIOD_EXPIRY (R29): of the chain whose expiry is next in ascending order at this frame expiry; of another chain
none arises now (log entry 4). -/
def execPeriodExpiry (c : ChainNo) (s : State) : Host.Outcome State Fault Refusal :=
  match s.frame.expiries with
  | d :: rest => if d = c then .next (s.takeExpiry c rest) else .next s
  | [] => .next s

/-! ## Idle cool-down (R13) -/

/-- The four conditions of R13. -/
def State.coolable (s : State) (c : ChainNo) : Bool :=
  (s.chain c).state == .warm && !(s.chain c).defn.pinned && !(s.due.contains c) && 0 < (s.chain c).defn.coolDown

/-- A chain's examination at a frame expiry: one more idle frame, and at C the chain goes COLD and frees a place. -/
def State.examine (s : State) (c : ChainNo) : State :=
  if s.coolable c then
    (if (s.chain c).idle + 1 < (s.chain c).defn.coolDown then s.modChain c fun r => { r with idle := r.idle + 1 }
     else (s.chill c .cold).grantTest)
  else s

/-- Every chain not yet examined is examined. -/
def State.takeCoolDowns (s : State) : State :=
  s.frame.coolDowns.foldl State.examine (s.setFrame { s.frame with coolDowns := [] })

/-- IDLE_COOL_DOWN (R13): the chain's examination of this frame expiry, if it is outstanding (log entry 15). -/
def execIdleCoolDown (c : ChainNo) (s : State) : Host.Outcome State Fault Refusal :=
  if s.frame.coolDowns.contains c then
    .next ((s.setFrame { s.frame with coolDowns := s.frame.coolDowns.filter (· != c) }).examine c)
  else .next s

/-! ## The Page Writer's frame work (R101) -/

/-- The Page Writer's work at a frame expiry; in a drain the end test follows (R101, R159). -/
def State.pageWork (s : State) : State := s.pageWriterWork.drainTest

/-- The Page Writer's work, if it is outstanding. -/
def State.takePageWork (s : State) : State := if s.frame.pageWork then s.pageWork else s

/-- TIMER_SEAL (R101): the Page Writer's outstanding work on a page held; the seal follows when the timer reaches the
seal delay. -/
def execTimerSeal (s : State) : Host.Outcome State Fault Refusal :=
  if s.frame.pageWork && s.pages.current.isSome then .next s.pageWork else .next s

/-! ## The sweep -/

/-- The rest of the outstanding sweep (R116). -/
def State.takeSweep (s : State) : State := (s.setFrame { s.frame with sweep := [] }).sweepOver s.frame.sweep

/-! ## The frame expiry (R156) -/

/-- One block's outstanding frame work. -/
def State.blockWork (s : State) : FrameBlock → State
  | .scanScheduler => s.takeExpiries
  | .chainController => s.takeCoolDowns
  | .pageWriter => s.takePageWork
  | .requestEngine => s.takeSweep

/-- The order in which work left outstanding is completed (log entry 6). -/
def leftoverOrder : List FrameBlock := [.scanScheduler, .chainController, .pageWriter, .requestEngine]

/-- All outstanding frame work. -/
def State.finishFrame (s : State) : State := leftoverOrder.foldl State.blockWork s

/-- The Scan Scheduler counts a chain: period above 0, and COLD, SETTLING, WARM or READING (R29). -/
def ChainRec.counting (r : ChainRec) : Bool :=
  0 < r.defn.period && (r.state == .cold || r.state == .settling || r.state == .warm || r.state == .reading)

/-- A chain's counter reaches 0 in this decrement (R29). -/
def ChainRec.expires (r : ChainRec) : Bool := r.counting && r.periodCounter == 1

/-- A chain's counter decremented, and reloaded when it reaches 0 (R29). -/
def ChainRec.decremented (r : ChainRec) : ChainRec :=
  if r.counting then { r with periodCounter := if r.periodCounter = 1 then r.defn.period else r.periodCounter - 1 } else r

/-- CLKIN cycles of a frame (R156). -/
def Geometry.frameCycles (g : Geometry) : Nat := Config.cyclesPerFrameUnit * g.frameCode

/-- The frame stamp advances and the timer runs on (R156, R157). -/
def State.advanceFrame (s : State) : State :=
  { s with run := { s.run with stamp := s.run.stamp + 1, frameTimer := s.run.geometry.map Geometry.frameCycles } }

/-- The frame work of a RUNNING expiry is outstanding, the period counters decremented (R13, R29, R101, R116). -/
def State.openRunningFrame (s : State) : State :=
  { s.advanceFrame with
    chains := Vector.ofFn fun i => s.chains[i].decremented
    frame := { expiries := allChains.filter fun c => (s.chain c).expires, coolDowns := allChains, pageWork := true,
               sweep := (cyclicAfter s.slotCount s.requests.cursor.val).map (Fin.ofNat 16) } }

/-- The frame work of a DRAINING expiry: the Page Writer's alone (R156). -/
def State.openDrainingFrame (s : State) : State :=
  { s.advanceFrame with frame := { expiries := [], coolDowns := [], pageWork := true, sweep := [] } }

/-- A frame expiry, by the run state; in IDLE and INIT none falls (R156). -/
def State.expireFrame (s : State) (order : List FrameBlock) : State :=
  match s.run.state with
  | .init => s
  | .idle => s
  | .running => order.foldl State.blockWork s.openRunningFrame
  | .draining => order.foldl State.blockWork s.openDrainingFrame

/-- FRAME_EXPIRY (R156): what an earlier expiry left outstanding is done first (log entry 6). -/
def execFrameExpiry (order : List FrameBlock) (s : State) : Host.Outcome State Fault Refusal :=
  if (Instr.frameExpiry order).wf then .next (s.finishFrame.expireFrame order) else .fault .notACommand

end Sys2Proof.Machine
end

