-- ==== Sys2Proof/Machine/Record.lean ====
section
/-! DEFINITION. The commands of the Record Unit, the Page Writer and the drain's end: PAGE_ACQUISITION, OVERRUN_RECORD,
DRAIN_END (R84, R99, R159). Inside other events the same operations run in the same event (log entry 14). -/

namespace Sys2Proof.Machine

open Sys2Proof

/-- PAGE_ACQUISITION (R97 to R99): the attempt of a frame expiry that is outstanding, with no current page. -/
def execPageAcquisition (s : State) : Host.Outcome State Fault Refusal :=
  if s.frame.pageWork && s.pages.current.isNone then .next s.pageWork else .next s

/-- OVERRUN_RECORD (R84): a place is free while overrun pending is above 0. -/
def execOverrunRecord (s : State) : Host.Outcome State Fault Refusal :=
  if s.records.queue.length < tripQueueSize && s.records.overrun != 0 then .next s.placeOverrun.pump else .next s

/-- DRAIN_END (R159): the drain-end test. -/
def execDrainEnd (s : State) : Host.Outcome State Fault Refusal := .next s.drainTest

end Sys2Proof.Machine
end

