-- ==== Sys2Proof/Machine/Control.lean ====
section
/-! DEFINITION. The Run Controller's resets and commands as operations (08): hard reset, INIT, START, STOP, SOFT_RESET.
The port brings the commands (Port.lean). -/

namespace Sys2Proof.Machine

open Sys2Proof

/-! ## START (R154, R155) -/

/-- A header byte as a number (R153). -/
def State.headerField (s : State) (offset : Nat) : Nat := (s.window.read offset).toNat

/-- A value lies in a range, ends included. -/
def within (low value high : Nat) : Bool := low ≤ value && value ≤ high

/-- The refusal cause of a START, 0 when every check passes (R154). -/
def State.startRefusal (s : State) : Nat :=
  if !within 1 (s.headerField 0) 16 then 1
  else if !within 2 (s.headerField 1) 40 then 2
  else if !within 1 (s.headerField 2) 64 then 3
  else if !within 1 (s.headerField 3) 4 then 4
  else if !within 0 (s.headerField 4) 3 then 5
  else if !within 1 (s.headerField 5) 255 then 6
  else if !(s.pinnedCount < s.headerField 3 : Bool) then 7
  else 0

/-- The header host fields as a geometry (R153). -/
def State.headerGeometry (s : State) : Geometry :=
  { slots := s.headerField 0, pages := s.headerField 1, frameCode := s.headerField 2, warm := s.headerField 3,
    shiftCode := s.headerField 4, sealDelay := s.headerField 5 }

/-- A refused START: the cause in STATUS and the BOARD flag (R154). -/
def State.refuseStart (s : State) (cause : Nat) : State :=
  ({ s with run := { s.run with refusal := cause } }).raise .board

/-- The signature "FG24", 46h 47h 32h 34h (R164). -/
def signatureWord : Word := 0x34324746

/-- A chain record at an accepted START (R2, R26, R28). -/
def ChainRec.started (r : ChainRec) : ChainRec :=
  { r with
    faultRun := if r.state = .lost then r.faultRun else 0
    late := 0
    reads := 0
    idle := 0
    lastRead := 0
    waiting := .reads []
    periodCounter := if r.state = .off || r.state = .lost then 0 else 1 }

/-- A group record at an accepted START (R74). -/
def GroupRec.started (g : GroupRec) : GroupRec := { g with state := .unset, last := 0, trips := 0, lastTrip := 0 }

/-- An accepted START (R155). -/
def State.acceptStart (s : State) : State :=
  let g := s.headerGeometry
  { s with
    run := { s.run with state := .running, frameTimer := some g.frameCycles, geometry := some g,
                        signature := signatureWord, epoch := s.run.epoch + 1, stamp := 0, refusal := 0 }
    frame := FrameWork.empty
    chains := Vector.ofFn fun i => s.chains[i].started
    lru := []
    due := []
    read := none
    images := Vector.replicate 16 Image.reset
    groups := Vector.ofFn fun i => s.groups[i].started
    records := RecordUnit.reset
    pages := { PageWriter.reset with cursor := Fin.ofNat 40 (g.pages - 1) }
    requests := { taken := [], cursor := Fin.ofNat 16 (g.slots - 1) } }

/-- The START command, by the run state (R152). -/
def State.startCommand (s : State) : State :=
  match s.run.state with
  | .init => s
  | .idle => if s.startRefusal = 0 then s.acceptStart else s.refuseStart s.startRefusal
  | .running => s
  | .draining => s

/-! ## STOP (R158, R160) -/

/-- A slot's request belongs to the read in progress: attached to it, or the deferred marker on its chain (R123). -/
def State.belongsToRead (s : State) (k : SlotNo) : Bool :=
  match s.read with
  | none => false
  | some rd => rd.attached.contains k || (s.chain rd.chain).waiting == .deferred k

/-- The slots of the taken set, in ascending slot number. -/
def State.takenAscending (s : State) : List SlotNo := allSlots.filter fun k => (s.heldOf k).isSome

/-- A chain's record at the entry into DRAINING (R24). -/
def ChainRec.drained (r : ChainRec) : ChainRec :=
  if r.state = .settling || r.state = .warm then r.chilled .cold else r

/-- The entry into DRAINING (R24, R49, R123, R158), up to the drain-end test. -/
def State.enterDraining (s : State) : State :=
  ({ s with
    run := { s.run with state := .draining }
    frame := FrameWork.empty
    chains := Vector.ofFn fun i => s.chains[i].drained
    lru := []
    due := [] }).answerAll (s.takenAscending.filter fun k => !s.belongsToRead k) (Answer.plain .stopped)

/-- The read in progress is abandoned: its chain COLD, the requests on its list answered (R16, R48). -/
def State.abandonRead (s : State) (a : Answer) : State :=
  match s.read with
  | none => s
  | some rd => ({ s.chill rd.chain .cold with read := none }).answerAll (s.chain rd.chain).waiting.slots a

/-- A second STOP discards the trip queue (R90). -/
def State.discardQueue (s : State) : State :=
  s.setRecords { s.records with queue := [], overrun := 0,
                                lost := s.records.lost + BitVec.ofNat 32 s.records.queue.length }

/-- A second STOP (R160). -/
def State.secondStop (s : State) : State := (s.abandonRead (Answer.plain .stopped)).discardQueue.drainEnd

/-- The STOP command, by the run state (R152). Frame work left outstanding is done first (R161, log entry 6). -/
def State.stopCommand (s : State) : State :=
  match s.run.state with
  | .init => s
  | .idle => s
  | .running => s.finishFrame.enterDraining.drainTest
  | .draining => if s.finishFrame.run.state = .draining then s.finishFrame.secondStop else s.finishFrame

/-! ## SOFT_RESET (R162) -/

/-- The current page is abandoned: its entry FREE, record count and page sequence 0 (R109). -/
def State.abandonPage (s : State) : State :=
  match s.pages.current with
  | none => s
  | some p => s.setWindow (s.window.writeBytes (entryBase p) [pageFree, 0, 0, 0])

/-- The sweep cursor after a soft reset: S-1 of the geometry in force, or as it stands without one (R111, R153). -/
def State.resetCursor (s : State) : SlotNo :=
  match s.run.geometry with
  | some g => Fin.ofNat 16 (g.slots - 1)
  | none => s.requests.cursor

/-- What a soft reset clears once the answers are written and the page abandoned (R162). -/
def State.clearAll (s : State) : State :=
  { s with
    run := { s.run with state := .idle, zeroing := none, frameTimer := none, signature := 0, epoch := 0, stamp := 0,
                        refusal := 0 }
    frame := FrameWork.empty
    chains := Vector.replicate 16 ChainRec.reset
    lru := []
    due := []
    read := none
    images := Vector.replicate 16 Image.reset
    groups := Vector.replicate 64 GroupRec.reset
    records := RecordUnit.reset
    pages := PageWriter.reset
    requests := { taken := [], cursor := s.resetCursor }
    alerts := { s.alerts with flags := 0 } }

/-- A soft reset (R109, R125, R162). -/
def State.softReset (s : State) : State :=
  let abandoned := s.abandonRead (Answer.plain .reset)
  (abandoned.answerAll abandoned.takenAscending (Answer.plain .reset)).abandonPage.clearAll

/-- The SOFT_RESET command, by the run state (R152). Frame work left outstanding is done first (R161, log entry 6). -/
def State.softResetCommand (s : State) : State :=
  match s.run.state with
  | .init => s
  | .idle => s.finishFrame.softReset
  | .running => s.finishFrame.softReset
  | .draining => s.finishFrame.softReset

/-! ## Hard reset and INIT (R163, R181) -/

/-- The port's phase while nRESET is low and after: a transaction whose nCS stays low is ignored (R181). -/
def PortPhase.underReset : PortPhase → PortPhase
  | .closed => .closed
  | .ignored => .ignored
  | .instruction => .ignored
  | .addressLow _ => .ignored
  | .addressHigh _ _ => .ignored
  | .windowWrite _ => .ignored
  | .windowRead _ => .ignored
  | .registerNumber _ => .ignored
  | .registerWrite _ _ => .ignored
  | .registerRead _ _ _ => .ignored

/-- HARD_RESET (R163): every block at its hard-reset values. The window RAM keeps its bytes until the zeroing. -/
def execHardReset (s : State) : Host.Outcome State Fault Refusal :=
  .next { State.reset with port := Port.fresh s.port.phase.underReset, window := s.window, fresh := s.fresh,
                           pending := s.pending }

/-- NRESET_RISE (R163): the window zeroing begins; how long it takes is the world's (log entry 9). -/
def execNresetRise (s : State) : Host.Outcome State Fault Refusal :=
  if s.run.nresetLow then
    .next { s with run := { s.run with nresetLow := false, state := .init,
                                       zeroing := some (Config.initCycles s.fresh).val }
                   fresh := s.fresh + 1 }
  else .next s

/-- INIT_END (R163): the window is zero and the run IDLE. -/
def execInitEnd (s : State) : Host.Outcome State Fault Refusal :=
  if s.run.state = .init && s.run.zeroing.isSome then
    .next { s with run := { s.run with state := .idle, zeroing := none }, window := [] }
  else .next s

end Sys2Proof.Machine
end

