-- ==== Sys2Proof/Machine/Port.lean ====
section
/-! DEFINITION. The Window Port (10): the write filter, window reads and their captures, registers, transactions, byte by
byte; and the host's commands. -/

namespace Sys2Proof.Machine

open Sys2Proof

/-! ## The write filter (R96, R114, R178) -/

/-- A host byte on a slot owner code (R114): EMPTY or POSTED, unless the slot reads TAKEN. -/
def slotOwnerAccepts (held b : Byte) : Bool := (b == slotEmpty || b == slotPosted) && held != slotTaken

/-- A host byte on a page table owner code (R96): NONE or FREE, unless the entry reads FILLING. -/
def pageOwnerAccepts (held b : Byte) : Bool := (b == pageNone || b == pageFree) && held != pageFilling

/-- Whether the filter lets a host byte through, by its address, its value and the byte held there (R178). -/
def filterAccepts (a : Nat) (held b : Byte) : Bool :=
  if a < 0x10 then true
  else if a < 0x40 then false
  else if a < 0x340 then
    (if (a - 0x40) % 0x30 = 0 then slotOwnerAccepts held b else decide ((a - 0x40) % 0x30 < 16))
  else if a < 0x3E0 then (if (a - 0x340) % 4 = 0 then pageOwnerAccepts held b else false)
  else if a < 0x400 then true
  else if a < 0x680 then false
  else if a < 0x700 then true
  else if a < 0x2F00 then false
  else true

/-- A host byte takes effect at its address, subject to the filter; in INIT it is dropped (R175, R178, R181). -/
def State.hostByte (s : State) (addr : WindowAddr) (b : Byte) : State :=
  if s.run.state ≠ .init && filterAccepts addr.toNat (s.window.read addr.toNat) b then
    s.setWindow (s.window.write addr.toNat b)
  else s

/-! ## The port's transaction -/

/-- The port's transaction replaced. -/
def State.setPort (s : State) (p : Port) : State := { s with port := p }

/-- The port moves on within its transaction; the byte in progress is complete. -/
def State.toPhase (s : State) (phase : PortPhase) : State := s.setPort { s.port with phase := phase, shift := [] }

/-- A window write data byte: it takes effect and the address advances, wrapping from 3FFFh to 0000h (R175). -/
def State.windowData (s : State) (addr : WindowAddr) (b : Byte) : State :=
  (s.hostByte addr b).setPort (Port.fresh (.windowWrite (addr + 1)))

/-- The value of a read data byte and the mirror-entry capture after it: in INIT 00h and no capture; a header byte from
the header capture if there is one; a mirror byte from its entry's capture, taken at the entry's first byte; any other
byte live (R176, R177, R181). -/
def State.readData (s : State) (p : Port) (a : Nat) : Byte × Option (Nat × List Byte) :=
  if s.run.state = .init then (0, p.mirrorCapture)
  else if a < 0x40 then
    match p.headerCapture with
    | some h => (h.getD a 0, p.mirrorCapture)
    | none => (s.windowByte a, p.mirrorCapture)
  else if inMirror a then
    (if a % 8 = 0 then (s.windowByte a, some (s.mirrorEntry a))
     else
      match p.mirrorCapture with
      | some (base, bytes) =>
        if base = (s.mirrorEntry a).1 then (bytes.getD (a % 8) 0, p.mirrorCapture) else (s.windowByte a, p.mirrorCapture)
      | none => (s.windowByte a, p.mirrorCapture))
  else (s.windowByte a, p.mirrorCapture)

/-- The port takes the value of a data byte, drives it, and the address advances (R176). -/
def State.takeData (s : State) (p : Port) (addr : WindowAddr) : State :=
  let taken := s.readData p addr.toNat
  s.setPort { p with phase := .windowRead (addr + 1), shift := [], mirrorCapture := taken.2, sdo := some taken.1 }

/-- The port at the end of a window read's address phase: a header capture when the address lies in the header (R177),
none in INIT (R181). -/
def State.readPort (s : State) (addr : WindowAddr) : Port :=
  { Port.fresh (.windowRead addr) with
    headerCapture := if addr.toNat < 0x40 && s.run.state ≠ .init then some s.header else none }

/-- The address phase of a window read completes and the first data byte's value is taken (R176, R177). -/
def State.beginRead (s : State) (addr : WindowAddr) : State := s.takeData (s.readPort addr) addr

/-- A register write's value reaches its register (R152, R167, R169, R179, R181). -/
def State.registerWritten (s : State) (number : Byte) (value : Half) : State :=
  if number = 2 then
    (if value.setWidth 8 = (0x01 : Byte) then s.startCommand
     else if value.setWidth 8 = (0x02 : Byte) then s.stopCommand
     else if value.setWidth 8 = (0xA5 : Byte) then s.softResetCommand
     else s)
  else if number = 3 then s.clearFlags value
  else if number = 4 then (if s.run.state = .init then s else s.setEnables value)
  else s

/-- The port after a register write: the register number has advanced, wrapping from 255 to 0 (R179). -/
def State.afterRegister (s : State) (number : Byte) : State :=
  s.setPort (Port.fresh (.registerWrite (number + 1) none))

/-- The port copies a register and drives its low byte (R179). -/
def State.copyRegister (s : State) (number : Byte) : State :=
  s.setPort { Port.fresh (.registerRead number (s.register number) false) with
              sdo := some ((s.register number).extractLsb' 0 8) }

/-- The port drives the high byte of the register's copy (R179). -/
def State.driveHigh (s : State) (number : Byte) (copy : Half) : State :=
  s.setPort { Port.fresh (.registerRead number copy true) with sdo := some (copy.extractLsb' 8 8) }

/-- The phase an instruction byte begins (R174). -/
def instructionPhase (b : Byte) : PortPhase :=
  if b = 0x31 then .addressLow true
  else if b = 0x32 then .addressLow false
  else if b = 0x33 then .registerNumber true
  else if b = 0x34 then .registerNumber false
  else .ignored

/-- One whole byte clocked in or out, by the phase of the transaction (R174 to R179). -/
def State.portByte (s : State) (b : Byte) : State :=
  match s.port.phase with
  | .closed => s
  | .ignored => s
  | .instruction => s.toPhase (instructionPhase b)
  | .addressLow write => s.toPhase (.addressHigh write b)
  | .addressHigh write low =>
    if write then s.toPhase (.windowWrite ((halfOf low b).setWidth 14))
    else s.beginRead ((halfOf low b).setWidth 14)
  | .windowWrite addr => s.windowData addr b
  | .windowRead addr => s.takeData s.port addr
  | .registerNumber write => if write then s.toPhase (.registerWrite b none) else s.copyRegister b
  | .registerWrite number none => s.toPhase (.registerWrite number (some b))
  | .registerWrite number (some low) => (s.registerWritten number (halfOf low b)).afterRegister number
  | .registerRead number copy false => s.driveHigh number copy
  | .registerRead number _ true => s.copyRegister (number + 1)

/-- The eight bits of a byte in the order they are carried, the most significant first (R174). -/
def byteBits (b : Byte) : List Bool :=
  [b.getLsbD 7, b.getLsbD 6, b.getLsbD 5, b.getLsbD 4, b.getLsbD 3, b.getLsbD 2, b.getLsbD 1, b.getLsbD 0]

/-- The byte of bits carried most significant first (R174). -/
def byteOf (bits : List Bool) : Byte := bits.foldl (fun v b => v <<< 1 ||| (if b then 1 else 0)) 0

/-- One bit is clocked: the eighth completes its byte (R174). With nCS high, or in a transaction ignored to its end, SCK
and SDI are ignored (R174, R181). -/
def State.clockBit (s : State) (b : Bool) : State :=
  if s.port.phase = .closed || s.port.phase = .ignored then s
  else if s.port.shift.length < 7 then s.setPort { s.port with shift := s.port.shift ++ [b] }
  else (s.setPort { s.port with shift := [] }).portByte (byteOf (s.port.shift ++ [b]))

/-- Bits clocked one after another. -/
def State.clockBits (s : State) (bits : List Bool) : State := bits.foldl State.clockBit s

/-- The port takes host accesses: nRESET is high and the transaction in progress, if any, is not one whose bytes are
ignored up to the rise of nCS (R163, R174, R181). -/
def State.portOpen (s : State) : Bool := !s.run.nresetLow && s.port.phase != .ignored

/-- A whole register write by the host (R179). One that does not continue the transaction in progress is the first of
a transaction of its own (log entry 11). -/
def State.hostRegisterWrite (s : State) (number : Byte) (value : Half) : State :=
  if s.portOpen then (s.registerWritten number value).afterRegister number else s

/-! ## The meanings -/

/-- START (R152, R154, R155): COMMAND written with low byte 01h. -/
def execStart (high : Byte) (s : State) : Host.Outcome State Fault Refusal :=
  .next (s.hostRegisterWrite 2 (halfOf 0x01 high))

/-- STOP (R152, R158, R160): COMMAND written with low byte 02h. -/
def execStop (high : Byte) (s : State) : Host.Outcome State Fault Refusal :=
  .next (s.hostRegisterWrite 2 (halfOf 0x02 high))

/-- SOFT_RESET (R152, R162): COMMAND written with low byte A5h. -/
def execSoftReset (high : Byte) (s : State) : Host.Outcome State Fault Refusal :=
  .next (s.hostRegisterWrite 2 (halfOf 0xA5 high))

/-- IRQ_FLAGS_WRITE (R167). -/
def execIrqFlagsWrite (value : Half) (s : State) : Host.Outcome State Fault Refusal :=
  .next (s.hostRegisterWrite 3 value)

/-- IRQ_ENABLE_WRITE (R169). -/
def execIrqEnableWrite (value : Half) (s : State) : Host.Outcome State Fault Refusal :=
  .next (s.hostRegisterWrite 4 value)

/-- REGISTER_WRITE_IGNORED (R152, R179, R180): the register number advances and nothing else changes. -/
def execRegisterWriteIgnored (number : Byte) (value : Half) (s : State) : Host.Outcome State Fault Refusal :=
  if (Instr.registerWriteIgnored number value).wf then .next (s.hostRegisterWrite number value)
  else .fault .notACommand

/-- WINDOW_WRITE (R175): the first data byte of a transaction carries the address; a later one goes where the port
stands, and cannot arise in another phase (log entry 4). -/
def execWindowWrite (first : Option Half) (data : Byte) (s : State) : Host.Outcome State Fault Refusal :=
  if s.portOpen then
    match first, s.port.phase with
    | some a, _ => .next (s.windowData (a.setWidth 14) data)
    | none, .windowWrite addr => .next (s.windowData addr data)
    | none, _ => .next s
  else .next s

/-- WINDOW_READ (R176, R177): the value of a data byte is taken, the first at the end of the address phase. -/
def execWindowRead (first : Option Half) (s : State) : Host.Outcome State Fault Refusal :=
  if s.portOpen then
    match first, s.port.phase with
    | some a, _ => .next (s.beginRead (a.setWidth 14))
    | none, .windowRead addr => .next (s.takeData s.port addr)
    | none, _ => .next s
  else .next s

/-- nCS falls from high: a transaction begins, expecting its instruction byte (R174); while nRESET is low the port does
not respond, and ignores the transaction to its end (R181). With nCS low already it cannot fall: the transaction in
progress, ignored or not, runs on, which is the model's choice (log entry 27). -/
def State.selected (s : State) : State :=
  if s.port.phase = .closed then s.setPort (Port.fresh (if s.run.nresetLow then .ignored else .instruction)) else s

/-- TRANSACTION_BEGIN (R174): nCS falls, and the bytes of `lead` and then `bits` are clocked. While nRESET is low SCK and
SDI are ignored (R181). -/
def execTransactionBegin (lead : List Byte) (bits : List Bool) (s : State) : Host.Outcome State Fault Refusal :=
  if s.run.nresetLow then .next s.selected else .next (s.selected.clockBits (lead.flatMap byteBits ++ bits))

/-- TRANSACTION_END (R174): nCS rises; a partial byte, a held register byte and the captures are gone, SDO is released,
and the port may take an instruction again (R177, R181). -/
def execTransactionEnd (s : State) : Host.Outcome State Fault Refusal := .next (s.setPort (Port.fresh .closed))

end Sys2Proof.Machine
end

