-- ==== Sys2Proof/Machine/Clock.lean ====
section
/-! DEFINITION. What happens on an empty queue: outstanding frame work is completed, else one CLKIN cycle passes, and
the timers that run out put their events into the queue (log entries 6, 8, 9). -/

namespace Sys2Proof.Machine

open Sys2Proof

/-- The k-th order of a list: every order is the k-th for some k. -/
def arrange {α : Type} : Nat → List α → List α
  | _, [] => []
  | k, x :: xs =>
    let others := arrange (k / (xs.length + 1)) xs
    others.take (k % (xs.length + 1)) ++ x :: others.drop (k % (xs.length + 1))

/-- A timer runs out in this cycle. -/
def runsOut (timer : Option Nat) : Bool :=
  match timer with
  | some n => n ≤ 1
  | none => false

/-- A timer after this cycle. -/
def counted (timer : Option Nat) : Option Nat := timer.map (· - 1)

/-- The events of the Run Controller's timers: the end of the zeroing and the frame expiry (R156, R163). -/
def State.runEvents (s : State) : List Instr :=
  (if runsOut s.run.zeroing then [Instr.initEnd] else [])
    ++ (if runsOut s.run.frameTimer then [Instr.frameExpiry (arrange (Config.frameOrder s.fresh) leftoverOrder)] else [])

/-- The settle completions of this cycle (R11). -/
def State.settleEvents (s : State) : List Instr :=
  (allChains.filter fun c => runsOut (s.chain c).settle).map Instr.settleCompletion

/-- The event the read in progress has in this cycle: the end of the load, a rising edge of CCLK in the middle of a bit
time, the end of the last bit time (R39, R40). -/
def State.readEvents (s : State) : List Instr :=
  match s.read with
  | none => []
  | some rd =>
    let now := rd.elapsed + 1
    if now = rd.bitTime * (rd.length + 9) then [Instr.readCompletion]
    else if now = rd.bitTime || (rd.bitTime < now && now % rd.bitTime == rd.bitTime / 2) then
      [Instr.bitTime (Config.chainInputs s.fresh)]
    else []

/-- The read's clock after this cycle; CCLK falls at the end of each bit time (R39). -/
def ReadInProgress.ticked (rd : ReadInProgress) : ReadInProgress :=
  { rd with elapsed := rd.elapsed + 1
            clockHigh := rd.clockHigh && (rd.elapsed + 1) % rd.bitTime != 0 }

/-- The timers after this cycle. -/
def State.countTimers (s : State) : State :=
  { s with
    run := { s.run with zeroing := counted s.run.zeroing, frameTimer := counted s.run.frameTimer }
    chains := Vector.ofFn fun i => { s.chains[i] with settle := counted s.chains[i].settle }
    read := s.read.map ReadInProgress.ticked }

/-- One CLKIN cycle. Events that fall in it wait in the queue in an order the world chooses. -/
def State.tick (s : State) : State :=
  match s.runEvents ++ s.settleEvents ++ s.readEvents with
  | [] => s.countTimers
  | event :: events =>
    { s.countTimers with fresh := s.fresh + 1
                         pending := s.pending ++ arrange (Config.tieOrder s.fresh) (event :: events) }

/-- A step with no command waiting. -/
def State.idleStep (s : State) : State := if s.frame = FrameWork.empty then s.tick else s.finishFrame

end Sys2Proof.Machine
end

