-- ==== Sys2Proof/Machine/Dispatch.lean ====
section
/-! DEFINITION. One arm for each command. -/

namespace Sys2Proof.Machine

open Sys2Proof

def exec (i : Instr) (s : State) : Host.Outcome State Fault Refusal :=
  match i with
  | .hardReset => Sys2Proof.Machine.execHardReset s
  | .nresetRise => Sys2Proof.Machine.execNresetRise s
  | .initEnd => Sys2Proof.Machine.execInitEnd s
  | .start high => Sys2Proof.Machine.execStart high s
  | .stop high => Sys2Proof.Machine.execStop high s
  | .softReset high => Sys2Proof.Machine.execSoftReset high s
  | .irqFlagsWrite value => Sys2Proof.Machine.execIrqFlagsWrite value s
  | .irqEnableWrite value => Sys2Proof.Machine.execIrqEnableWrite value s
  | .registerWriteIgnored number value => Sys2Proof.Machine.execRegisterWriteIgnored number value s
  | .windowWrite first data => Sys2Proof.Machine.execWindowWrite first data s
  | .windowRead first => Sys2Proof.Machine.execWindowRead first s
  | .frameExpiry order => Sys2Proof.Machine.execFrameExpiry order s
  | .periodExpiry chain => Sys2Proof.Machine.execPeriodExpiry chain s
  | .idleCoolDown chain => Sys2Proof.Machine.execIdleCoolDown chain s
  | .timerSeal => Sys2Proof.Machine.execTimerSeal s
  | .settleCompletion chain => Sys2Proof.Machine.execSettleCompletion chain s
  | .excitationGrant => Sys2Proof.Machine.execExcitationGrant s
  | .readStart => Sys2Proof.Machine.execReadStart s
  | .readCompletion => Sys2Proof.Machine.execReadCompletion s
  | .pageAcquisition => Sys2Proof.Machine.execPageAcquisition s
  | .overrunRecord => Sys2Proof.Machine.execOverrunRecord s
  | .drainEnd => Sys2Proof.Machine.execDrainEnd s
  | .setChain => Sys2Proof.Machine.execSetChain s
  | .readChain => Sys2Proof.Machine.execReadChain s
  | .parkChain => Sys2Proof.Machine.execParkChain s
  | .setGroup => Sys2Proof.Machine.execSetGroup s
  | .rearmGroup => Sys2Proof.Machine.execRearmGroup s
  | .dropGroup => Sys2Proof.Machine.execDropGroup s
  | .flush => Sys2Proof.Machine.execFlush s
  | .badKind => Sys2Proof.Machine.execBadKind s
  | .transactionBegin lead bits => Sys2Proof.Machine.execTransactionBegin lead bits s
  | .transactionEnd => Sys2Proof.Machine.execTransactionEnd s
  | .bitTime inputs => Sys2Proof.Machine.execBitTime inputs s

end Sys2Proof.Machine
end

