-- ==== Sys2Proof/Safety.lean ====
section
/-! DEFINITION. The laws the spec states of the part's state (R5, R6, R8, R32, R53, R61, R81, R85, R87, R121, R163), and the words
the statements use for a take and for what a slot shows. -/

namespace Sys2Proof.Machine

open Sys2Proof

/-! ## Laws of the state -/

/-- The window RAM stands in its canonical form. -/
abbrev State.windowLaw (s : State) : Prop := s.window.wf = true

/-- While the run state is INIT, nRESET low among it, every block but the port and the window holds its hard-reset
values (R163, R172); and nRESET is low in no other run state, and in no zeroing. -/
abbrev State.initLaw (s : State) : Prop :=
  (s.run.state = .init →
    s.run.frameTimer = none ∧ s.run.geometry = none ∧ s.run.signature = 0 ∧ s.run.epoch = 0 ∧ s.run.stamp = 0 ∧
    s.run.refusal = 0 ∧ s.frame = FrameWork.empty ∧ s.chains = Vector.replicate 16 ChainRec.reset ∧ s.lru = [] ∧
    s.due = [] ∧ s.read = none ∧ s.images = Vector.replicate 16 Image.reset ∧
    s.groups = Vector.replicate 64 GroupRec.reset ∧ s.records = RecordUnit.reset ∧ s.pages = PageWriter.reset ∧
    s.requests.taken = [] ∧ s.requests.cursor = 15 ∧ s.alerts.flags = 0 ∧ s.alerts.enables = 0 ∧ s.alerts.level = 0) ∧
  (s.run.nresetLow = true → s.run.state = .init ∧ s.run.zeroing = none)

/-- Records generated equals records written plus records in the trip queue plus lost total, modulo 2^32 (R87). -/
abbrev State.balanceLaw (s : State) : Prop :=
  s.records.generated = s.records.written + BitVec.ofNat 32 s.records.queue.length + s.records.lost

/-- The trip queue holds at most 12 records, and any only while no page is current (R81); overrun pending is above 0
only with 12 records waiting and no page (R85); a current page holds 1 to 14 records (R100). -/
abbrev State.tripQueueLaw (s : State) : Prop :=
  s.records.queue.length ≤ 12 ∧
  (s.records.overrun ≠ 0 → s.records.queue.length = 12) ∧
  (∀ p : PageNo, s.pages.current = some p →
    s.records.queue = [] ∧ 1 ≤ (s.recordCount p).toNat ∧ (s.recordCount p).toNat ≤ 14)

/-- At most 6 slots are taken, each once (R121); a taken slot reads TAKEN (R121) and stands on the list of the chain its
request names, and every slot on a list is taken, by a request that names the chain (R111). The slots attached to the
read in progress stand on its chain's list (R37). Outside RUNNING no sweep is outstanding (R116); in DRAINING every taken
slot belongs to the read in progress (R123), and in IDLE none is taken (R121, R124). -/
abbrev State.takenLaw (s : State) : Prop :=
  s.requests.taken.length ≤ 6 ∧
  (s.requests.taken.map Held.slot).Nodup ∧
  (∀ h ∈ s.requests.taken,
    s.slotOwner h.slot = slotTaken ∧ h.slot ∈ (s.chain h.request.chain).waiting.slots) ∧
  (∀ c : ChainNo, (s.chain c).waiting.slots.Nodup ∧
    ∀ k ∈ (s.chain c).waiting.slots, ∃ h ∈ s.requests.taken, h.slot = k ∧ h.request.chain = c) ∧
  (∀ rd ∈ s.read, ∀ k ∈ rd.attached, k ∈ (s.chain rd.chain).waiting.slots) ∧
  (s.run.state ≠ .running → s.frame.sweep = []) ∧
  (s.run.state = .draining → ∀ h ∈ s.requests.taken, s.belongsToRead h.slot = true) ∧
  (s.run.state = .idle → s.requests.taken = [])

/-- In RUNNING and DRAINING fewer chains are pinned than the warm limit in force (R8), each chain counted that a deferred
SET_CHAIN will pin (R133). -/
abbrev State.pinLaw (s : State) : Prop :=
  s.run.state = .running ∨ s.run.state = .draining → allChains.countP s.countsPinned < s.warmLimit

/-- The excitation law. The LRU order holds each WARM chain once (R6); the due queue holds no chain twice, none OFF or
LOST (R32), and every SETTLING chain (R12); a settle timer holds a time in SETTLING alone (R1); the READING chain is the
one of the read in progress (R3); in RUNNING the warm set is within the warm limit in force (R5); outside RUNNING no
chain is due and no chain-side frame work is outstanding (R32, R156); in DRAINING no chain but a READING one is excited
(R24), and in IDLE and INIT none is (R5). -/
abbrev State.warmLaw (s : State) : Prop :=
  s.lru.Nodup ∧ (∀ c : ChainNo, c ∈ s.lru ↔ (s.chain c).state = .warm) ∧
  s.due.Nodup ∧ (∀ c ∈ s.due, (s.chain c).state ≠ .off ∧ (s.chain c).state ≠ .lost) ∧
  (∀ c ∈ s.frame.expiries, (s.chain c).state ≠ .off ∧ (s.chain c).state ≠ .lost) ∧
  (∀ c : ChainNo, (s.chain c).state = .settling → c ∈ s.due) ∧
  (∀ c : ChainNo, (s.chain c).settle.isSome = true ↔ (s.chain c).state = .settling) ∧
  (∀ c : ChainNo, (s.chain c).state = .reading ↔ s.read.map ReadInProgress.chain = some c) ∧
  (s.run.state = .running → s.warmCount ≤ s.warmLimit) ∧
  (s.run.state ≠ .running →
    s.due = [] ∧ s.frame.expiries = [] ∧ s.frame.coolDowns = [] ∧ s.frame.sweep = [] ∧
    ∀ c : ChainNo, (s.chain c).state.excited = true → (s.chain c).state = .reading) ∧
  (s.run.state = .idle ∨ s.run.state = .init → s.read = none)

/-- A defined group that is CONFORM or DIVERGED is CONFORM exactly when its last value equals its compare pattern under
its mask, and an UNSET group's last value is 0 (R61); on an unprimed chain every defined group is UNSET (R58, R66). -/
abbrev State.groupLaw (s : State) : Prop :=
  ∀ n : GroupNo, (s.group n).defined = true →
    ((s.group n).state = .unset → (s.group n).last = 0) ∧
    ((s.group n).state = .conform → (s.group n).last = (s.group n).compare &&& (s.group n).mask) ∧
    ((s.group n).state = .diverged → (s.group n).last ≠ (s.group n).compare &&& (s.group n).mask) ∧
    ((s.image (s.group n).chain).primed = false → (s.group n).state = .unset)

/-- Positions past a chain's length hold 0, a debounce counter is below the debounce depth (R53), an unprimed chain's image
is all 0 (R58), and the read in progress has its chain's length (R37). -/
abbrev State.imageLaw (s : State) : Prop :=
  (∀ (c : ChainNo) (k : Nat), k < 128 →
    ((s.chain c).defn.length ≤ k → (s.image c).point k = Point.reset) ∧
    (((s.image c).point k).counter ≠ 0 → ((s.image c).point k).counter < (s.chain c).defn.depth)) ∧
  (∀ c : ChainNo, (s.image c).primed = false → s.image c = Image.reset) ∧
  (∀ rd ∈ s.read, rd.length = (s.chain rd.chain).defn.length)

/-! ## Words of the statements -/

/-- The state after commands run one after another. -/
def State.after (s : State) (cs : List Instr) : State :=
  cs.foldl (fun t c => match exec c t with
    | .next u => u
    | .fault _ => t
    | .refused _ => t) s

/-- The command that takes a request, by its kind byte (R128). -/
def takeCommand (kind : Byte) : Instr :=
  if kind = 0x01 then .setChain
  else if kind = 0x02 then .readChain
  else if kind = 0x03 then .parkChain
  else if kind = 0x04 then .setGroup
  else if kind = 0x05 then .rearmGroup
  else if kind = 0x06 then .dropGroup
  else if kind = 0x07 then .flush
  else .badKind

/-- The read of a chain has every bit, and its check octet equals the check pattern or does not (R39, R43). -/
def State.readEnds (s : State) (rd : ReadInProgress) (good : Bool) : Prop :=
  s.read = some rd ∧ rd.loading = false ∧ rd.received.length = rd.length + 8 ∧
  (good = true ↔
    ∀ i, i < 8 → rd.received.getD (rd.length + i) false = (s.chain rd.chain).defn.checkPattern.getLsbD i)

/-- Two bytes of the window show a 16-bit value, low byte first (R182). -/
def State.showsHalf (s : State) (a : Nat) (v : Half) : Prop :=
  s.windowByte a = v.extractLsb' 0 8 ∧ s.windowByte (a + 1) = v.extractLsb' 8 8

/-- Four bytes of the window show a 32-bit value, low byte first (R182). -/
def State.showsWord (s : State) (a : Nat) (v : Word) : Prop :=
  s.showsHalf a (v.extractLsb' 0 16) ∧ s.showsHalf (a + 2) (v.extractLsb' 16 16)

/-- The sweep's next take is of slot `k`: the slots before it do not read POSTED, it does, and the taken set has room
(R116); `rest` is what the sweep has still to visit after it. -/
def State.nextTake (s : State) (k : SlotNo) (rest : List SlotNo) : Prop :=
  (∃ passed : List SlotNo, s.frame.sweep = passed ++ k :: rest ∧ ∀ j ∈ passed, s.slotOwner j ≠ slotPosted) ∧
  s.slotOwner k = slotPosted ∧ s.requests.taken.length < 6

/-- A slot shows an answer, byte by byte (R119, R183). -/
def State.showsAnswer (s : State) (k : SlotNo) (result detail : Byte) (stamp : Word) (payload : List Byte) : Prop :=
  s.slotOwner k = slotAnswered ∧
  s.window.read (slotBase k + 16) = result ∧ s.window.read (slotBase k + 17) = detail ∧
  s.window.read (slotBase k + 18) = 0 ∧ s.window.read (slotBase k + 19) = 0 ∧
  s.window.word (slotBase k + 20) = stamp ∧
  (∀ i, i < 16 → s.window.read (slotBase k + 24 + i) = payload.getD i 0) ∧
  (∀ i, i < 8 → s.window.read (slotBase k + 40 + i) = 0)

/-- The bytes of a slot the part writes: its owner code and bytes 16 to 47 (R112, R183). -/
def ownedByPart (k : SlotNo) (a : Nat) : Prop := a = slotBase k ∨ (slotBase k + 16 ≤ a ∧ a < slotBase k + 48)

/-- A slot's bytes apart, the window of `t` reads as that of `s`. -/
def State.windowKeptBut (s t : State) (k : SlotNo) : Prop :=
  ∀ a, ¬ ownedByPart k a → t.window.read a = s.window.read a

/-- The taken set without a slot. -/
def State.takenBut (s : State) (k : SlotNo) : List Held := s.requests.taken.filter fun h => h.slot != k

end Sys2Proof.Machine
end

