-- ==== Sys2Proof/Certificates/Slice0/Obligations.lean ====
section
/-! DEFINITION. The statements for the provers. Each names the rules it rests on; where it rests on a choice of the model,
it names the log entry. Log entries 2, 4 and 5 to 8 stand behind every statement of outstanding frame work and of the
empty queue, log entry 16 behind every statement of a take. -/

open Sys2Proof Sys2Proof.Machine

/-! ## The step -/

/-- A step takes the command at the front of the queue and runs it on the state with the queue's rest. -/
def Obligations.StepRunsFrontCommand : Prop :=
  ∀ (c : Instr) (s : State) (rest : List Instr),
    step { s with pending := c :: rest } = exec c { s with pending := rest }

/-- A command of the table always completes; a term that is not one (log entry 20) faults. -/
def Obligations.EveryCommandCompletes : Prop :=
  ∀ (c : Instr) (s : State),
    (c.wf = true → ∃ t, exec c s = .next t) ∧ (c.wf = false → exec c s = .fault .notACommand)

/-- On an empty queue a step completes frame work outstanding (log entries 6 and 8), and with none it is one CLKIN cycle
(log entry 8): each timer counts down, and one that runs out, the load's end, a bit time's middle or a read's end puts
its event into the queue (R11, R39, R40, R156, R163), each once and in some order, and nothing else changes. -/
def Obligations.EmptyQueueStepIsOneCycle : Prop :=
  ∀ s : State, s.pending = [] →
    (s.frame ≠ FrameWork.empty →
      step s = .next ([.scanScheduler, .chainController, .pageWriter, .requestEngine].foldl State.blockWork s)) ∧
    (s.frame = FrameWork.empty → ∃ t, step s = .next t ∧
      t = { s with run := { s.run with frameTimer := s.run.frameTimer.map (· - 1)
                                       zeroing := s.run.zeroing.map (· - 1) }
                   chains := t.chains, fresh := t.fresh, pending := t.pending
                   read := s.read.map fun rd => { rd with
                     elapsed := rd.elapsed + 1
                     clockHigh := rd.clockHigh && decide ((rd.elapsed + 1) % rd.bitTime ≠ 0) } } ∧
      (∀ c : ChainNo, t.chain c = { s.chain c with settle := (s.chain c).settle.map (· - 1) }) ∧
      (∀ n, s.run.zeroing = some n → n ≤ 1 → .initEnd ∈ t.pending) ∧
      (∀ n, s.run.frameTimer = some n → n ≤ 1 →
        ∃ order : List FrameBlock,
          order.Perm [.scanScheduler, .chainController, .pageWriter, .requestEngine] ∧ .frameExpiry order ∈ t.pending) ∧
      (∀ (c : ChainNo) (n : Nat), (s.chain c).settle = some n → n ≤ 1 → .settleCompletion c ∈ t.pending) ∧
      (∀ rd, s.read = some rd → rd.bitTime ∈ [8, 16, 32, 64] →
        (rd.elapsed + 1 = rd.bitTime * (rd.length + 9) → .readCompletion ∈ t.pending) ∧
        (rd.elapsed + 1 = rd.bitTime → ∃ inputs, .bitTime inputs ∈ t.pending) ∧
        (∀ k, 1 ≤ k → k ≤ rd.length + 8 →
          rd.elapsed + 1 = rd.bitTime * k + rd.bitTime / 2 → ∃ inputs, .bitTime inputs ∈ t.pending)) ∧
      t.pending.Nodup ∧
      (∀ i ∈ t.pending,
        (i = .initEnd ∧ ∃ n, s.run.zeroing = some n ∧ n ≤ 1) ∨
        (∃ order n, i = .frameExpiry order ∧ s.run.frameTimer = some n ∧ n ≤ 1) ∨
        (∃ c n, i = .settleCompletion c ∧ (s.chain c).settle = some n ∧ n ≤ 1) ∨
        (∃ rd, i = .readCompletion ∧ s.read = some rd ∧ rd.elapsed + 1 = rd.bitTime * (rd.length + 9)) ∨
        (∃ rd inputs, i = .bitTime inputs ∧ s.read = some rd ∧ rd.elapsed + 1 ≠ rd.bitTime * (rd.length + 9) ∧
          (rd.elapsed + 1 = rd.bitTime ∨
            (rd.bitTime < rd.elapsed + 1 ∧ (rd.elapsed + 1) % rd.bitTime = rd.bitTime / 2)))) ∧
      (t.pending = [] → t.fresh = s.fresh))

/-! ## Resets and INIT -/

/-- HARD_RESET: every block holds its hard-reset values, the outputs are off, SDO is high-impedance, nIRQ released; a
transaction whose nCS is low is ignored from then on (R163, R172, R181). The window keeps its bytes (log entry 2).
NRESET_RISE and INIT_END (R163): the run state is INIT and the zeroing begins, at most 2 ms, 16000 CLKIN cycles; at its
end the run enters IDLE, every byte of the window RAM reads 00h, so every slot reads EMPTY and every page table entry
NONE, and a START written at once is refused with cause 1. In other states these events do not arise (log entry 4). How
long the zeroing takes is a free value (log entry 9); the run state while nRESET is low is the model's choice (log entry
24). -/
def Obligations.HardResetAndInit : Prop :=
  ∀ s : State,
    (∃ t, exec .hardReset s = .next t ∧
      t.run.state = .init ∧ t.run.nresetLow = true ∧ t.run.zeroing = none ∧ t.initLaw ∧
      (∀ c : ChainNo, t.excitation c = false) ∧ t.cclk = false ∧ t.cld = false ∧ t.nirqLow = false ∧
      t.port.sdo = none ∧ t.port.shift = [] ∧ t.port.headerCapture = none ∧ t.port.mirrorCapture = none ∧
      (s.port.phase = .closed → t.port.phase = .closed) ∧ (s.port.phase ≠ .closed → t.port.phase = .ignored) ∧
      t.window = s.window ∧ t.fresh = s.fresh ∧ t.pending = s.pending) ∧
    (s.run.nresetLow = true → ∃ k, k ≤ 16000 ∧
      exec .nresetRise s =
        .next { s with run := { s.run with state := .init, nresetLow := false, zeroing := some k }
                       fresh := s.fresh + 1 }) ∧
    (s.run.nresetLow = false → exec .nresetRise s = .next s) ∧
    (s.run.state = .init → s.run.zeroing.isSome = true →
      ∃ t, exec .initEnd s = .next t ∧
        t = { s with run := { s.run with state := .idle, zeroing := none }, window := t.window } ∧
        (∀ a, t.window.read a = 0) ∧ (∀ k, t.slotOwner k = slotEmpty) ∧ (∀ p, t.pageOwner p = pageNone) ∧
        (t.portOpen = true → ∀ high, ∃ u, exec (.start high) t = .next u ∧ u.run.state = .idle ∧ u.run.refusal = 1)) ∧
    (s.run.state ≠ .init ∨ s.run.zeroing = none → exec .initEnd s = .next s)

/-! ## START -/

/-- START accepted in IDLE (R155): every block as its rule says, no flag set or cleared, window and definitions kept.
That the write is taken wherever an open port stands is the model's choice (log entry 11). -/
def Obligations.StartAcceptedPreparesRun : Prop :=
  ∀ (s : State) (high : Byte) (S P F W K D : Nat), s.portOpen = true → s.run.state = .idle →
    (s.window.read 0).toNat = S → (s.window.read 1).toNat = P → (s.window.read 2).toNat = F →
    (s.window.read 3).toNat = W → (s.window.read 4).toNat = K → (s.window.read 5).toNat = D →
    1 ≤ S → S ≤ 16 → 2 ≤ P → P ≤ 40 → 1 ≤ F → F ≤ 64 → 1 ≤ W → W ≤ 4 → K ≤ 3 → 1 ≤ D → s.pinnedCount < W →
    ∃ t, exec (.start high) s = .next t ∧
      t.run = { s.run with
        state := .running, frameTimer := some (2000 * F), signature := 0x34324746, epoch := s.run.epoch + 1,
        stamp := 0, refusal := 0,
        geometry := some { slots := S, pages := P, frameCode := F, warm := W, shiftCode := K, sealDelay := D } } ∧
      (∀ c : ChainNo, t.chain c = { s.chain c with
        faultRun := if (s.chain c).state = .lost then (s.chain c).faultRun else 0
        late := 0, reads := 0, idle := 0, lastRead := 0, waiting := .reads []
        periodCounter := if (s.chain c).state = .off ∨ (s.chain c).state = .lost then 0 else 1 }) ∧
      t.lru = [] ∧ t.due = [] ∧ t.read = none ∧ t.frame = FrameWork.empty ∧
      (∀ c : ChainNo, t.image c = Image.reset) ∧
      (∀ n : GroupNo, t.group n = { s.group n with state := .unset, last := 0, trips := 0, lastTrip := 0 }) ∧
      t.records = { seq := 0, queue := [], overrun := 0, generated := 0, written := 0, lost := 0, episodes := 0 } ∧
      t.pages.current = none ∧ t.pages.cursor.val = P - 1 ∧ t.pages.nextSeq = 1 ∧ t.pages.sealTimer = 0 ∧
      t.pages.sealed = 0 ∧ t.pages.lastSealed = 0 ∧
      t.requests.taken = [] ∧ t.requests.cursor.val = S - 1 ∧
      (t.windowByte 0x10 = 0x46 ∧ t.windowByte 0x11 = 0x47 ∧ t.windowByte 0x12 = 0x32 ∧ t.windowByte 0x13 = 0x34) ∧
      (∀ a, 0x16 ≤ a → a < 0x40 → t.windowByte a = 0) ∧
      t.alerts = s.alerts ∧ t.window = s.window ∧ t.pending = s.pending

/-- START refused in IDLE by the first check that fails (R154): the cause in STATUS, the BOARD flag, nothing else. That
the write is taken wherever an open port stands is the model's choice (log entry 11). -/
def Obligations.StartRefusedByFirstFailingCheck : Prop :=
  ∀ (s : State) (high : Byte) (cause : Nat), s.portOpen = true → s.run.state = .idle →
    cause =
      (if ¬ (1 ≤ (s.window.read 0).toNat ∧ (s.window.read 0).toNat ≤ 16) then 1
       else if ¬ (2 ≤ (s.window.read 1).toNat ∧ (s.window.read 1).toNat ≤ 40) then 2
       else if ¬ (1 ≤ (s.window.read 2).toNat ∧ (s.window.read 2).toNat ≤ 64) then 3
       else if ¬ (1 ≤ (s.window.read 3).toNat ∧ (s.window.read 3).toNat ≤ 4) then 4
       else if ¬ (s.window.read 4).toNat ≤ 3 then 5
       else if ¬ 1 ≤ (s.window.read 5).toNat then 6
       else if ¬ s.pinnedCount < (s.window.read 3).toNat then 7
       else 0) →
    cause ≠ 0 →
    exec (.start high) s =
      .next { s with run := { s.run with refusal := cause }
                     alerts := { s.alerts with flags := s.alerts.flags ||| 0x40 }
                     port := Port.fresh (.registerWrite 3 none) }

/-! ## STOP, the drain, SOFT_RESET. `s.finishFrame` completes frame work still outstanding, log entry 6 -/

/-- STOP in RUNNING (R24, R49, R123, R158): DRAINING, SETTLING and WARM chains COLD, no chain due, the read goes on, and
every taken request that does not belong to it is answered STOPPED. With the reader idle the drain-end test follows in
the same event (R159): with no record waiting a page held is sealed STOP and the run is IDLE, else it drains on. What an
earlier frame expiry left outstanding is done first (log entry 6). That the write is taken wherever an open port stands
is the model's choice (log entry 11). -/
def Obligations.StopEntersDraining : Prop :=
  ∀ (s u : State) (high : Byte), s.portOpen = true → s.run.state = .running → u = s.finishFrame → u.windowLaw →
    ∃ t, exec (.stop high) s = .next t ∧
      t.read = u.read ∧ t.lru = [] ∧ t.due = [] ∧ t.frame = FrameWork.empty ∧
      (∀ c : ChainNo, (u.chain c).state = .settling ∨ (u.chain c).state = .warm →
        (t.chain c).state = .cold ∧ (t.chain c).settle = none ∧ (t.chain c).idle = 0) ∧
      (∀ c : ChainNo, (u.chain c).state ≠ .settling → (u.chain c).state ≠ .warm →
        (t.chain c).state = (u.chain c).state ∧ (t.chain c).idle = (u.chain c).idle) ∧
      (∀ c : ChainNo, (t.chain c).defn = (u.chain c).defn ∧ (t.chain c).periodCounter = (u.chain c).periodCounter ∧
        (t.chain c).late = (u.chain c).late ∧ (t.chain c).reads = (u.chain c).reads ∧
        (t.chain c).faultRun = (u.chain c).faultRun) ∧
      t.images = u.images ∧ t.groups = u.groups ∧ t.records = u.records ∧
      t.requests.cursor = u.requests.cursor ∧
      (∀ h ∈ u.requests.taken, h ∉ t.requests.taken →
        t.showsAnswer h.slot 0x08 0 u.run.stamp [] ∧ t.flagged .answer = true) ∧
      (∀ rd, u.read = some rd →
        t.run = { u.run with state := .draining } ∧ t.pages = u.pages ∧
        t.requests.taken = u.requests.taken.filter (fun h =>
          rd.attached.contains h.slot || (u.chain rd.chain).waiting == .deferred h.slot)) ∧
      (u.read = none → t.requests.taken = [] ∧
        (u.records.queue ≠ [] → t.run = { u.run with state := .draining } ∧ t.pages = u.pages ∧
          t.flagged .stopped = u.flagged .stopped) ∧
        (u.records.queue = [] → t.run = { u.run with state := .idle, frameTimer := none } ∧
          t.flagged .stopped = true ∧ t.pages.current = none ∧
          (∀ p, u.pages.current = some p → t.flagged .sealed = true ∧ t.pageOwner p = pageSealed ∧
            t.window.read (pageBase p + 7) = 4 ∧ t.window.word (pageBase p + 12) = u.run.stamp ∧
            t.pages.sealed = u.pages.sealed + 1 ∧ t.pages.lastSealed = u.pageSeq p)))

/-- A second STOP (R16, R48, R90, R160): the read in progress is abandoned, its chain COLD with its counters kept and
the requests on the chain's list answered STOPPED; the trip queue is discarded, every waiting record counted lost,
overrun pending 0 without an OVERRUN record, so that the balance of R87 holds; a page held is sealed; the run is IDLE.
What an earlier frame expiry left outstanding is done first (log entry 6). That the write is taken wherever an open port
stands is the model's choice (log entry 11). -/
def Obligations.SecondStopGivesUpTheDrain : Prop :=
  ∀ (s u : State) (high : Byte), s.portOpen = true → s.run.state = .draining →
    u = s.finishFrame → u.run.state = .draining → u.windowLaw →
    ∃ t, exec (.stop high) s = .next t ∧
      t.records = { u.records with queue := [], overrun := 0
                                   lost := u.records.lost + BitVec.ofNat 32 u.records.queue.length } ∧
      (u.balanceLaw → t.balanceLaw) ∧
      t.run = { u.run with state := .idle, frameTimer := none } ∧ t.flagged .stopped = true ∧
      t.pages.current = none ∧
      (∀ p, u.pages.current = some p → t.pages.sealed = u.pages.sealed + 1 ∧ t.pageOwner p = pageSealed) ∧
      t.read = none ∧ t.images = u.images ∧ t.groups = u.groups ∧
      (∀ rd, u.read = some rd →
        (t.chain rd.chain).state = .cold ∧ (t.chain rd.chain).defn = (u.chain rd.chain).defn ∧
        (t.chain rd.chain).faultRun = (u.chain rd.chain).faultRun ∧
        (t.chain rd.chain).reads = (u.chain rd.chain).reads ∧
        (t.chain rd.chain).lastRead = (u.chain rd.chain).lastRead ∧
        ∀ k ∈ (u.chain rd.chain).waiting.slots, t.showsAnswer k 0x08 0 u.run.stamp [])

/-- SOFT_RESET in IDLE, RUNNING or DRAINING (R25, R51, R75, R92, R109, R125, R162): IDLE, every definition and run item
cleared, the flags last; geometry in force, enables, alert level and the window kept, but for the RESET answers and the
abandoned page's entry. What an earlier frame expiry left outstanding is done first (log entry 6). That the write is
taken wherever an open port stands is the model's choice (log entry 11). -/
def Obligations.SoftResetClearsAllButHostsOwn : Prop :=
  ∀ (s u : State) (high : Byte), s.portOpen = true → s.run.state ≠ .init →
    u = s.finishFrame → u.windowLaw → u.takenLaw →
    ∃ t, exec (.softReset high) s = .next t ∧
      t.run = { u.run with state := .idle, zeroing := none, frameTimer := none, signature := 0, epoch := 0, stamp := 0
                           refusal := 0 } ∧
      t.run.geometry = s.run.geometry ∧
      (∀ c : ChainNo, t.chain c = ChainRec.reset ∧ t.image c = Image.reset ∧ t.excitation c = false) ∧
      (∀ n : GroupNo, t.group n = GroupRec.reset) ∧
      t.lru = [] ∧ t.due = [] ∧ t.read = none ∧ t.frame = FrameWork.empty ∧
      t.records = RecordUnit.reset ∧ t.pages = PageWriter.reset ∧ t.requests.taken = [] ∧
      (∀ g, s.run.geometry = some g → 1 ≤ g.slots → g.slots ≤ 16 → t.requests.cursor.val = g.slots - 1) ∧
      t.alerts.flags = 0 ∧ t.alerts.enables = s.alerts.enables ∧ t.alerts.level = s.alerts.level ∧
      t.nirqLow = false ∧
      (∀ a, 0x10 ≤ a → a < 0x40 → t.windowByte a = 0) ∧ (∀ a, 0x400 ≤ a → a < 0x680 → t.windowByte a = 0) ∧
      (∀ h ∈ u.requests.taken, t.showsAnswer h.slot 0x09 0 u.run.stamp []) ∧
      (∀ p, u.pages.current = some p → t.pageOwner p = pageFree ∧ t.window.read (entryBase p + 1) = 0 ∧
        t.window.half (entryBase p + 2) = 0) ∧
      (∀ a, (∀ h ∈ u.requests.taken, ¬ ownedByPart h.slot a) →
        (∀ p, u.pages.current = some p → ¬ (entryBase p ≤ a ∧ a < entryBase p + 4)) →
        t.window.read a = u.window.read a)

/-- DRAIN_END, the drain-end test as a command of its own (log entry 14; R105, R159): in DRAINING, with the reader idle
and the trip queue empty, a page held is sealed STOP, or TIMER where the seal delay of a frame expiry taken before runs
out (R161), STOPPED is set, the frame timer stops and the run is IDLE; in any other state the event does not arise and
nothing happens (log entry 4). OVERRUN_RECORD as a command of its own (R84, log entry 14): a free place and losses
pending bring the record; without either it does not arise (log entry 4). -/
def Obligations.DrainEndAndOverrunRecordAsCommands : Prop :=
  ∀ s : State,
    (s.run.state = .draining → s.read = none → s.records.queue = [] →
      ∃ t, exec .drainEnd s = .next t ∧
        t = { s with run := { s.run with state := .idle, frameTimer := none }, frame := FrameWork.empty
                     pages := t.pages, alerts := t.alerts, window := t.window } ∧
        t.flagged .stopped = true ∧ t.pages.current = none ∧
        (s.pages.current = none → t.pages = s.pages ∧ t.window = s.window ∧
          t.alerts = { s.alerts with flags := s.alerts.flags ||| 0x20 }) ∧
        (∀ p, s.pages.current = some p → s.windowLaw →
          t.flagged .sealed = true ∧ t.pageOwner p = pageSealed ∧
          t.window.read (pageBase p + 7) =
            (if s.frame.pageWork = true ∧ s.run.geometry.map Geometry.sealDelay = some (s.pages.sealTimer + 1) then 2
             else 4) ∧
          t.window.word (pageBase p + 12) = s.run.stamp ∧ t.pages.sealed = s.pages.sealed + 1 ∧
          t.pages.lastSealed = s.pageSeq p)) ∧
    (s.run.state ≠ .draining ∨ s.read.isSome = true ∨ s.records.queue ≠ [] → exec .drainEnd s = .next s) ∧
    (s.records.queue.length < 12 → s.records.overrun ≠ 0 → s.pages.current = none → s.pageCount ≤ 40 →
      (∀ p : PageNo, p.val < s.pageCount → s.pageOwner p ≠ pageFree) →
      exec .overrunRecord s = .next { s with records := { s.records with
        queue := s.records.queue ++
          [{ seq := s.records.seq, kind := .overrun, cls := 0, chain := none, group := none, before := 0
             after := s.records.episodes, detail := s.records.overrun, stamp := s.run.stamp }]
        seq := s.records.seq + 1, generated := s.records.generated + 1, overrun := 0 } }) ∧
    (12 ≤ s.records.queue.length ∨ s.records.overrun = 0 → exec .overrunRecord s = .next s)

/-! ## What only some commands change -/

/-- The geometry in force changes at START and hard reset alone (R153); the refusal cause, the signature and the run
epoch at START and the resets alone (R154, R164); the enables and the alert level at a write of IRQ_ENABLE and hard
reset alone (R165). A TRANSACTION_BEGIN can carry any of these. -/
def Obligations.ItemsChangeOnlyAtTheirCommands : Prop :=
  ∀ (c : Instr) (s t : State), exec c s = .next t → c ≠ .hardReset → (∀ lead bits, c ≠ .transactionBegin lead bits) →
    ((∀ high, c ≠ .start high) → t.run.geometry = s.run.geometry) ∧
    ((∀ high, c ≠ .start high) → (∀ high, c ≠ .softReset high) →
      t.run.refusal = s.run.refusal ∧ t.run.signature = s.run.signature ∧ t.run.epoch = s.run.epoch) ∧
    ((∀ value, c ≠ .irqEnableWrite value) →
      t.alerts.enables = s.alerts.enables ∧ t.alerts.level = s.alerts.level)

/-! ## Registers and nIRQ -/

/-- Register writes: IRQ_FLAGS clears the flags at whose bits a 1 is written (R167); IRQ_ENABLE sets the enables from
bits 0 to 6 and the alert level from bits 9 and 8 (R169), and is dropped in INIT (R172, R181); a write to ID, STATUS,
registers 5 to 255 or COMMAND with an unknown code is ignored (R152, R179), and so is a command in a run state that
ignores it (R152). Nothing else changes but the register number. While nRESET is low, and in a transaction that is
ignored to its end, no host access reaches the part at all (R174, R181). That a write is taken wherever an open port
stands, and none in a transaction that is ignored, is the model's choice (log entry 11). -/
def Obligations.RegisterWritesReachTheirRegister : Prop :=
  ∀ s : State,
    (s.portOpen = true → ∀ value : Half,
      (∃ t, exec (.irqFlagsWrite value) s = .next t ∧
        t = { s with alerts := { s.alerts with flags := t.alerts.flags }, port := Port.fresh (.registerWrite 4 none) } ∧
        ∀ i, i < 7 → t.alerts.flags.getLsbD i = (s.alerts.flags.getLsbD i && !value.getLsbD i)) ∧
      (∃ t, exec (.irqEnableWrite value) s = .next t ∧
        t = { s with alerts := t.alerts, port := Port.fresh (.registerWrite 5 none) } ∧
        t.alerts.flags = s.alerts.flags ∧
        (s.run.state = .init → t.alerts = s.alerts) ∧
        (s.run.state ≠ .init →
          (∀ i, i < 7 → t.alerts.enables.getLsbD i = value.getLsbD i) ∧
          t.alerts.level.getLsbD 0 = value.getLsbD 8 ∧ t.alerts.level.getLsbD 1 = value.getLsbD 9)) ∧
      (∀ number : Byte,
        (number = 0 ∨ number = 1 ∨ 5 ≤ number.toNat ∨
          (number = 2 ∧ value.setWidth 8 ≠ (0x01 : Byte) ∧ value.setWidth 8 ≠ (0x02 : Byte) ∧
            value.setWidth 8 ≠ (0xA5 : Byte))) →
        exec (.registerWriteIgnored number value) s =
          .next { s with port := Port.fresh (.registerWrite (number + 1) none) })) ∧
    (s.portOpen = true → ∀ high : Byte,
      (s.run.state ≠ .idle →
        exec (.start high) s = .next { s with port := Port.fresh (.registerWrite 3 none) }) ∧
      (s.run.state = .init ∨ s.run.state = .idle →
        exec (.stop high) s = .next { s with port := Port.fresh (.registerWrite 3 none) }) ∧
      (s.run.state = .init →
        exec (.softReset high) s = .next { s with port := Port.fresh (.registerWrite 3 none) })) ∧
    (s.portOpen = false →
      (∀ high, exec (.start high) s = .next s ∧ exec (.stop high) s = .next s ∧ exec (.softReset high) s = .next s) ∧
      (∀ value, exec (.irqFlagsWrite value) s = .next s ∧ exec (.irqEnableWrite value) s = .next s) ∧
      (∀ number value, (Instr.registerWriteIgnored number value).wf = true →
        exec (.registerWriteIgnored number value) s = .next s) ∧
      (∀ first data, exec (.windowWrite first data) s = .next s) ∧ (∀ first, exec (.windowRead first) s = .next s))

/-- nIRQ is low exactly while a flag is 1 whose enable is 1 (R171), and released in INIT (R172). Of a cause and a host
clear of the same flag, whichever is taken second decides the flag and nIRQ (R168). That the write is taken wherever an
open port stands is the model's choice (log entry 11). -/
def Obligations.SecondOfCauseAndClearDecidesFlagAndNirq : Prop :=
  ∀ (s : State) (f : Flag) (value : Half), s.portOpen = true → f.mask &&& value.setWidth 7 = f.mask →
    (s.nirqLow = true ↔ ∃ g : Flag, s.flagged g = true ∧ s.alerts.enables &&& g.mask ≠ 0) ∧
    (s.initLaw → s.run.state = .init → s.nirqLow = false) ∧
    (∃ t, exec (.irqFlagsWrite value) (s.raise f) = .next t ∧ t.flagged f = false ∧
      ((∀ g, g ≠ f → t.flagged g = false ∨ t.alerts.enables &&& g.mask = 0) → t.nirqLow = false)) ∧
    (∃ t, exec (.irqFlagsWrite value) s = .next t ∧ (t.raise f).flagged f = true ∧
      (s.alerts.enables &&& f.mask = f.mask → (t.raise f).nirqLow = true)) ∧
    (∀ g : Flag, g ≠ f → g.mask &&& value.setWidth 7 = 0 →
      ∃ t, exec (.irqFlagsWrite value) (s.raise g) = .next t ∧ t.flagged g = true ∧ t.flagged f = false)

/-- The registers show the state (R169, R179, R180), and so does the window where the part itself fills it: the header
device fields (R182), a chain mirror entry (R3, R27, R185), a group mirror entry (R71, R185). Every other address reads
the window RAM. -/
def Obligations.RegistersAndWindowShowState : Prop :=
  ∀ s : State,
    (s.run.refusal ≤ 7 → s.requests.taken.length ≤ 6 → s.warmCount ≤ 4 →
      s.register 0 = 0x2416 ∧ s.register 2 = 0 ∧ (∀ n : Byte, 5 ≤ n.toNat → s.register n = 0) ∧
      (s.register 1).extractLsb' 0 2 = BitVec.ofNat 2 s.run.state.code ∧
      (s.register 1).extractLsb' 2 4 = BitVec.ofNat 4 s.run.refusal ∧
      (s.register 1).extractLsb' 6 3 = BitVec.ofNat 3 s.requests.taken.length ∧
      (s.register 1).extractLsb' 9 3 = BitVec.ofNat 3 s.warmCount ∧
      (s.register 1).getLsbD 12 = s.read.isSome ∧ (s.register 1).getLsbD 13 = s.pages.current.isSome ∧
      (s.register 1).extractLsb' 14 2 = 0 ∧
      (∀ i, i < 16 → (s.register 3).getLsbD i = s.alerts.flags.getLsbD i) ∧
      (∀ i, i < 8 → (s.register 4).getLsbD i = s.alerts.enables.getLsbD i) ∧
      (∀ i, i < 8 → (s.register 4).getLsbD (i + 8) = s.alerts.level.getLsbD i)) ∧
    (s.showsWord 0x10 s.run.signature ∧ s.showsHalf 0x14 s.run.epoch ∧ s.showsHalf 0x16 s.records.episodes ∧
      s.showsWord 0x18 s.run.stamp ∧ s.showsWord 0x1C s.records.generated ∧ s.showsWord 0x20 s.records.written ∧
      s.showsWord 0x24 s.records.lost ∧ s.showsWord 0x28 s.pages.sealed ∧ s.showsWord 0x2C s.pages.lastSealed ∧
      ∀ a, 0x30 ≤ a → a < 0x40 → s.windowByte a = 0) ∧
    (∀ (c : ChainNo) (a : Nat), a = 0x400 + 8 * c.val →
      s.windowByte a = (match (s.chain c).state with
        | .off => 0 | .cold => 1 | .settling => 2 | .warm => 3 | .reading => 4 | .lost => 5) ∧
      s.windowByte (a + 1) = BitVec.ofNat 8 (s.chain c).faultRun ∧ s.showsHalf (a + 2) (s.chain c).late ∧
      s.showsHalf (a + 4) (s.chain c).reads ∧ s.showsHalf (a + 6) (s.chain c).lastRead) ∧
    (∀ (n : GroupNo) (a : Nat), a = 0x480 + 8 * n.val →
      ((s.group n).defined = false → ∀ i, i < 8 → s.windowByte (a + i) = 0) ∧
      ((s.group n).defined = true →
        (∀ i, i < 8 → (s.windowByte a).getLsbD i =
          (i == 0 || i == 1 && (s.group n).state == .diverged || i == 2 && (s.group n).state == .unset)) ∧
        s.windowByte (a + 1) = BitVec.ofNat 8 (s.group n).chain.val ∧ s.showsHalf (a + 2) (s.group n).last ∧
        s.showsHalf (a + 4) (s.group n).trips ∧ s.showsHalf (a + 6) (s.group n).lastTrip)) ∧
    (∀ a, ¬ (0x10 ≤ a ∧ a < 0x40) → ¬ (0x400 ≤ a ∧ a < 0x680) → s.windowByte a = s.window.read a)

/-! ## The port -/

/-- A host byte takes effect at its address subject to the write filter, the address advances, and nothing else changes
(R175, R178). `addr` is the address the transaction brought, or where the port stands. That a first byte is taken
wherever an open port stands is the model's choice (log entry 11). -/
def Obligations.WindowWriteMeetsFilter : Prop :=
  ∀ (s : State) (first : Option Half) (b : Byte) (addr : WindowAddr) (a : Nat), s.portOpen = true →
    (first.map (BitVec.setWidth 14) = some addr ∨ (first = none ∧ s.port.phase = .windowWrite addr)) →
    a = addr.toNat → s.windowLaw →
    ∃ t, exec (.windowWrite first b) s = .next t ∧
      t = { s with window := t.window, port := Port.fresh (.windowWrite (addr + 1)) } ∧
      (∀ x, x ≠ a → t.window.read x = s.window.read x) ∧
      t.window.read a =
        if s.run.state ≠ .init ∧
          (a < 0x10 ∨
           (0x40 ≤ a ∧ a < 0x340 ∧ (a - 0x40) % 0x30 = 0 ∧ (b = 0 ∨ b = 1) ∧ s.window.read a ≠ 2) ∨
           (0x40 ≤ a ∧ a < 0x340 ∧ 1 ≤ (a - 0x40) % 0x30 ∧ (a - 0x40) % 0x30 < 16) ∨
           (0x340 ≤ a ∧ a < 0x3E0 ∧ (a - 0x340) % 4 = 0 ∧ (b = 0 ∨ b = 1) ∧ s.window.read a ≠ 2) ∨
           (0x3E0 ≤ a ∧ a < 0x400) ∨ (0x680 ≤ a ∧ a < 0x700) ∨ 0x2F00 ≤ a)
        then b else s.window.read a

/-- WINDOW_READ (R176, R177, R181). The first data byte is taken at the end of the address phase, the whole header
captured if the address lies in it, a mirror entry at its first byte; 00h and no capture in INIT. A later byte comes
from the header capture if there is one, from the capture of its mirror entry if there is one, else live. That a first
byte is taken wherever an open port stands is the model's choice (log entry 11). -/
def Obligations.WindowReadServesCapturesOrLiveBytes : Prop :=
  ∀ (s : State), s.portOpen = true →
    (∀ (half : Half) (addr : WindowAddr), addr = half.setWidth 14 →
      ∃ t, exec (.windowRead (some half)) s = .next t ∧ t = { s with port := t.port } ∧
        t.port.phase = .windowRead (addr + 1) ∧ t.port.shift = [] ∧
        (s.run.state = .init → t.port.sdo = some 0 ∧ t.port.headerCapture = none ∧ t.port.mirrorCapture = none) ∧
        (s.run.state ≠ .init →
          t.port.sdo = some (s.windowByte addr.toNat) ∧
          t.port.headerCapture = (if addr.toNat < 0x40 then some s.header else none) ∧
          t.port.mirrorCapture =
            (if inMirror addr.toNat = true ∧ addr.toNat % 8 = 0 then some (s.mirrorEntry addr.toNat) else none))) ∧
    (∀ (addr : WindowAddr) (a : Nat), s.port.phase = .windowRead addr → a = addr.toNat →
      ∃ t, exec (.windowRead none) s = .next t ∧ t = { s with port := t.port } ∧
        t.port.phase = .windowRead (addr + 1) ∧ t.port.headerCapture = s.port.headerCapture ∧
        (s.run.state = .init → t.port.sdo = some 0 ∧ t.port.mirrorCapture = s.port.mirrorCapture) ∧
        (s.run.state ≠ .init →
          (∀ h, a < 0x40 → s.port.headerCapture = some h → t.port.sdo = some (h.getD a 0)) ∧
          (a < 0x40 → s.port.headerCapture = none → t.port.sdo = some (s.windowByte a)) ∧
          (0x40 ≤ a → inMirror a = false → t.port.sdo = some (s.windowByte a)) ∧
          (inMirror a = true → a % 8 = 0 →
            t.port.sdo = some (s.windowByte a) ∧ t.port.mirrorCapture = some (s.mirrorEntry a)) ∧
          (∀ bytes, inMirror a = true → a % 8 ≠ 0 → s.port.mirrorCapture = some ((s.mirrorEntry a).1, bytes) →
            t.port.sdo = some (bytes.getD (a % 8) 0) ∧ t.port.mirrorCapture = s.port.mirrorCapture) ∧
          (inMirror a = true → a % 8 ≠ 0 → s.port.mirrorCapture = none → t.port.sdo = some (s.windowByte a))))

/-- nCS falls: the port expects the instruction byte, and an instruction byte that names none has the rest of the
transaction ignored (R174); while nRESET is low all of it is ignored (R181). A byte is its eight bits, the most
significant first, wherever events fall between them (R174). Window writes and reads go byte by byte after the address,
whose low byte comes first (R175, R176). A register is written when its second byte arrives and the next pair goes to the
next register; a register read drives the copy taken at the number byte, low byte first, and then the next register's
(R167, R169, R179). nCS rises: a partial byte, a first register byte and the captures are gone (R174, R177, R179). What
rides with the command, and that with nCS low already the transaction in progress runs on, are the model's choice (log
entries 12 and 27). -/
def Obligations.TransactionsByteByByte : Prop :=
  ∀ s : State,
    (s.run.nresetLow = true → ∀ (lead : List Byte) (bits : List Bool), exec (.transactionBegin lead bits) s =
      .next (if s.port.phase = .closed then { s with port := Port.fresh .ignored } else s)) ∧
    (s.run.nresetLow = false → s.port.phase = .ignored → ∀ (lead : List Byte) (bits : List Bool),
      exec (.transactionBegin lead bits) s = .next s) ∧
    (s.run.nresetLow = false → s.port.phase = .closed → ∀ bits : List Bool, bits.length < 8 →
      exec (.transactionBegin [] bits) s = .next { s with port := { Port.fresh .instruction with shift := bits } } ∧
      (∀ b : Byte, b ≠ 0x31 → b ≠ 0x32 → b ≠ 0x33 → b ≠ 0x34 → ∀ more : List Byte,
        ∃ t, exec (.transactionBegin (b :: more) bits) s = .next t ∧ t = { s with port := t.port } ∧
          t.port.phase = .ignored ∧ t.port.sdo = none)) ∧
    (∀ (b : Byte) (lead : List Byte) (bits : List Bool), exec (.transactionBegin (b :: lead) bits) s =
      exec (.transactionBegin lead bits) (s.after [.transactionBegin [] [b.getLsbD 7, b.getLsbD 6, b.getLsbD 5,
        b.getLsbD 4, b.getLsbD 3, b.getLsbD 2, b.getLsbD 1, b.getLsbD 0]])) ∧
    (∀ first more : List Bool, exec (.transactionBegin [] (first ++ more)) s =
      exec (.transactionBegin [] more) (s.after [.transactionBegin [] first])) ∧
    (s.run.nresetLow = false → s.port.phase = .closed → ∀ (low high b : Byte) (more : List Byte),
      exec (.transactionBegin (0x31 :: low :: high :: b :: more) []) s =
        .next (s.after (.windowWrite (some (halfOf low high)) b :: more.map (Instr.windowWrite none))) ∧
      exec (.transactionBegin (0x32 :: low :: high :: more) []) s =
        .next (s.after (.windowRead (some (halfOf low high)) :: more.map fun _ => Instr.windowRead none))) ∧
    (s.run.nresetLow = false → s.port.phase = .closed →
      (s.run.state ≠ .init → ∀ f0 f1 e0 e1 : Byte,
        ∃ t, exec (.transactionBegin [0x33, 0x03, f0, f1, e0, e1] []) s = .next t ∧
          t = { s with alerts := t.alerts, port := Port.fresh (.registerWrite 5 none) } ∧
          (∀ i, i < 7 → t.alerts.flags.getLsbD i = (s.alerts.flags.getLsbD i && !f0.getLsbD i)) ∧
          (∀ i, i < 7 → t.alerts.enables.getLsbD i = e0.getLsbD i) ∧
          (∀ i, i < 2 → t.alerts.level.getLsbD i = e1.getLsbD i)) ∧
      (∀ f0 f1 e0 : Byte, ∃ t, exec (.transactionBegin [0x33, 0x03, f0, f1, e0] []) s = .next t ∧
        t.alerts.enables = s.alerts.enables ∧ t.alerts.level = s.alerts.level) ∧
      (∀ n : Byte, exec (.transactionBegin [0x34, n] []) s = .next { s with
        port := { Port.fresh (.registerRead n (s.register n) false) with
                  sdo := some ((s.register n).extractLsb' 0 8) } })) ∧
    (s.run.nresetLow = false → s.port.shift = [] → ∀ (n : Byte) (copy : Half) (b : Byte),
      (s.port.phase = .registerRead n copy false →
        exec (.transactionBegin [b] []) s = .next { s with
          port := { Port.fresh (.registerRead n copy true) with sdo := some (copy.extractLsb' 8 8) } }) ∧
      (s.port.phase = .registerRead n copy true →
        exec (.transactionBegin [b] []) s = .next { s with
          port := { Port.fresh (.registerRead (n + 1) (s.register (n + 1)) false) with
                    sdo := some ((s.register (n + 1)).extractLsb' 0 8) } })) ∧
    ∃ t, exec .transactionEnd s = .next t ∧ t = { s with port := t.port } ∧
      t.port.phase = .closed ∧ t.port.shift = [] ∧ t.port.headerCapture = none ∧ t.port.mirrorCapture = none ∧
      t.port.sdo = none

/-! ## Frames -/

/-- FRAME_EXPIRY in RUNNING opens the frame's work (R13, R29, R101, R116, R156, R157): the stamp rises, the timer runs
on, the period counters count, and what the blocks have still to do is outstanding until it is taken (log entry 5). The
period counters count at the expiry itself by inference (log entry 7). -/
def Obligations.FrameExpiryOpensFrameWork : Prop :=
  ∀ s : State, s.run.state = .running → s.frame = FrameWork.empty →
    ∃ t, exec (.frameExpiry []) s = .next t ∧
      t = { s with run := { s.run with stamp := s.run.stamp + 1, frameTimer := t.run.frameTimer }
                   chains := t.chains, frame := t.frame } ∧
      (∀ g, s.run.geometry = some g → t.run.frameTimer = some (2000 * g.frameCode)) ∧
      (∀ c : ChainNo,
        (0 < (s.chain c).defn.period ∧ (s.chain c).state ≠ .off ∧ (s.chain c).state ≠ .lost →
          t.chain c = { s.chain c with
            periodCounter := if (s.chain c).periodCounter = 1 then (s.chain c).defn.period
                             else (s.chain c).periodCounter - 1 }) ∧
        (¬ (0 < (s.chain c).defn.period ∧ (s.chain c).state ≠ .off ∧ (s.chain c).state ≠ .lost) →
          t.chain c = s.chain c) ∧
        (c ∈ t.frame.expiries ↔
          0 < (s.chain c).defn.period ∧ (s.chain c).state ≠ .off ∧ (s.chain c).state ≠ .lost ∧
            (s.chain c).periodCounter = 1)) ∧
      t.frame.expiries.Pairwise (fun c d => c < d) ∧
      (∀ c : ChainNo, c ∈ t.frame.coolDowns) ∧ t.frame.pageWork = true ∧
      t.frame.sweep =
        (List.range s.slotCount).map (fun i => Fin.ofNat 16 ((s.requests.cursor.val + 1 + i) % s.slotCount))

/-- Every frame expiry in RUNNING raises the frame stamp by one, keeps the run RUNNING and starts the next frame, in
whatever order the blocks do their work (R156, R157). One in DRAINING raises the stamp and does the Page Writer's work
alone, or leaves it outstanding where the command does not name it: no chain is made due, no slot taken (R29, R116); in
IDLE and INIT none falls. Which work is taken within the command is its operand (log entry 5). -/
def Obligations.FrameExpiryActsByRunState : Prop :=
  ∀ (s : State) (order : List FrameBlock), order.Nodup →
    (s.run.state = .running →
      ∃ t, exec (.frameExpiry order) s = .next t ∧
        t.run = { s.run with stamp := s.run.stamp + 1, frameTimer := t.run.frameTimer } ∧
        ∀ g, s.run.geometry = some g → t.run.frameTimer = some (2000 * g.frameCode)) ∧
    (s.run.state = .draining → s.frame = FrameWork.empty →
      (∃ t, exec (.frameExpiry order) s = .next t ∧ t.run.stamp = s.run.stamp + 1 ∧ t.chains = s.chains ∧
        t.due = s.due ∧ t.lru = s.lru ∧ t.read = s.read ∧ t.requests = s.requests ∧ t.images = s.images ∧
        t.groups = s.groups) ∧
      (.pageWriter ∉ order →
        exec (.frameExpiry order) s = .next { s with
          run := { s.run with stamp := s.run.stamp + 1, frameTimer := s.run.geometry.map fun g => 2000 * g.frameCode }
          frame := { FrameWork.empty with pageWork := true } }) ∧
      (.pageWriter ∈ order →
        exec (.frameExpiry order) s = .next (s.after [.frameExpiry [], .timerSeal, .pageAcquisition]))) ∧
    (s.run.state = .idle ∨ s.run.state = .init → s.frame = FrameWork.empty →
      exec (.frameExpiry order) s = .next s)

/-- FRAME_EXPIRY does the work of the blocks it names, in that order, once the frame is open, and before that what an
earlier expiry left outstanding (log entries 5 and 6). The Scan Scheduler's work is the period expiries outstanding
(R29), the Chain Controller's the examinations (R13), the Page Writer's its seal timer or its acquisition (R101), the
Request Engine's the sweep (R116): a slot that does not read POSTED is passed, one that does is taken while there is
room, and met without room it ends the sweep. -/
def Obligations.FrameBlocksDoTheirWork : Prop :=
  ∀ s : State,
    (∀ order : List FrameBlock, order.Nodup →
      exec (.frameExpiry order) s = exec (.frameExpiry order) s.finishFrame ∧
      (s.run.state = .running ∨ s.run.state = .draining → s.frame = FrameWork.empty →
        exec (.frameExpiry order) s = .next (order.foldl State.blockWork (s.after [.frameExpiry []])))) ∧
    s.blockWork .scanScheduler = s.after (s.frame.expiries.map Instr.periodExpiry) ∧
    (s.frame.coolDowns.Nodup →
      s.blockWork .chainController = s.after (s.frame.coolDowns.map Instr.idleCoolDown)) ∧
    s.blockWork .pageWriter = s.after [.timerSeal, .pageAcquisition] ∧
    (s.frame.sweep = [] → s.blockWork .requestEngine = s) ∧
    (∀ (k : SlotNo) (rest : List SlotNo), s.frame.sweep = k :: rest →
      (s.slotOwner k ≠ slotPosted →
        s.blockWork .requestEngine = State.blockWork { s with frame := { s.frame with sweep := rest } } .requestEngine) ∧
      (s.slotOwner k = slotPosted → 6 ≤ s.requests.taken.length →
        s.blockWork .requestEngine = { s with frame := { s.frame with sweep := [] } }) ∧
      (s.slotOwner k = slotPosted → s.requests.taken.length < 6 →
        s.blockWork .requestEngine =
          (s.after [takeCommand (s.readRequest k).kind]).blockWork .requestEngine))

/-- PERIOD_EXPIRY (R29, R30, R33). A chain already due keeps its place and its late count rises, holding at 65535.
Another joins at the end of the due queue: a COLD chain brings the grant test, a WARM one the choice of an idle reader,
a READING one waits. The command takes the expiry that is next at this frame expiry (log entries 4 and 5). -/
def Obligations.PeriodExpiryAppendsOrCountsLate : Prop :=
  ∀ (s : State) (c : ChainNo) (rest : List ChainNo), s.frame.expiries = c :: rest →
    (c ∈ s.due →
      ∃ t, exec (.periodExpiry c) s = .next t ∧
        t = { s with frame := { s.frame with expiries := rest }, chains := t.chains } ∧
        (∀ d : ChainNo, d ≠ c → t.chain d = s.chain d) ∧
        t.chain c = { s.chain c with late := if (s.chain c).late = 65535 then 65535 else (s.chain c).late + 1 }) ∧
    (c ∉ s.due →
      ∃ t, exec (.periodExpiry c) s = .next t ∧
        t = { s with frame := { s.frame with expiries := rest }
                     due := t.due, chains := t.chains, lru := t.lru, read := t.read } ∧
        (∀ d : ChainNo, (t.chain d).late = (s.chain d).late) ∧
        ((s.chain c).state = .reading ∨ (s.chain c).state = .settling → t.due = s.due ++ [c] ∧ t.chains = s.chains) ∧
        ((s.chain c).state = .cold → t.due = s.due ++ [c] ∧
          ((∀ d ∈ s.due, (s.chain d).state ≠ .cold) → s.warmCount < s.warmLimit →
            (t.chain c).state = .settling ∧ (t.chain c).settle = some (80 * (s.chain c).defn.settleTime))) ∧
        ((s.chain c).state = .warm → s.read.isSome = true → t.due = s.due ++ [c] ∧ t.chains = s.chains) ∧
        ((s.chain c).state = .warm → s.read = none → s.run.geometry.isSome = true →
          (∀ d ∈ s.due, (s.chain d).state ≠ .warm) →
          t.due = s.due ∧ (t.chain c).state = .reading ∧ t.read.map ReadInProgress.chain = some c))

/-- IDLE_COOL_DOWN (R13): a WARM, unpinned chain that is not due and has a cool-down counts one idle frame, and at its
cool-down goes COLD, out of the LRU order; any other chain keeps its idle frames. The command is the chain's outstanding
examination (log entry 15). -/
def Obligations.IdleCoolDownCountsFrames : Prop :=
  ∀ (s : State) (c : ChainNo), c ∈ s.frame.coolDowns →
    ∃ t, exec (.idleCoolDown c) s = .next t ∧
      t = { s with frame := { s.frame with coolDowns := s.frame.coolDowns.filter (· != c) }
                   chains := t.chains, lru := t.lru } ∧
      ((s.chain c).state = .warm ∧ (s.chain c).defn.pinned = false ∧ c ∉ s.due ∧ 0 < (s.chain c).defn.coolDown →
        ((s.chain c).idle + 1 < (s.chain c).defn.coolDown →
          t.lru = s.lru ∧ t.chain c = { s.chain c with idle := (s.chain c).idle + 1 } ∧
          ∀ d : ChainNo, d ≠ c → t.chain d = s.chain d) ∧
        ((s.chain c).defn.coolDown ≤ (s.chain c).idle + 1 →
          c ∉ t.lru ∧ ∃ x, t.chain c = { s.chain c with state := .cold, settle := none, idle := 0, stale := x })) ∧
      (¬ ((s.chain c).state = .warm ∧ (s.chain c).defn.pinned = false ∧ c ∉ s.due ∧ 0 < (s.chain c).defn.coolDown) →
        t.chains = s.chains ∧ t.lru = s.lru)

/-- TIMER_SEAL (R101, R102): at a frame expiry the seal timer of the current page rises by one; when it equals the seal
delay the page is sealed TIMER. In DRAINING, the reader idle and no record waiting, the drain ends with it (R159, R161).
The command is the Page Writer's outstanding work on a page held (log entry 14). -/
def Obligations.SealTimerSealsAtDelay : Prop :=
  ∀ (s : State) (p : PageNo) (g : Geometry), s.frame.pageWork = true → s.pages.current = some p →
    s.run.geometry = some g → s.records.queue = [] →
    (s.run.state = .draining → s.read = none → exec .timerSeal s = exec .drainEnd s) ∧
    (s.run.state = .running ∨ s.read.isSome = true → s.pages.sealTimer + 1 ≠ g.sealDelay →
      exec .timerSeal s = .next { s with frame := { s.frame with pageWork := false }
                                         pages := { s.pages with sealTimer := s.pages.sealTimer + 1 } }) ∧
    (s.run.state = .running ∨ s.read.isSome = true → s.pages.sealTimer + 1 = g.sealDelay →
      ∃ t, exec .timerSeal s = .next t ∧
        t = { s with frame := { s.frame with pageWork := false }, window := t.window
                     pages := { s.pages with current := none, sealTimer := 0, sealed := s.pages.sealed + 1
                                             lastSealed := s.pageSeq p }
                     alerts := { s.alerts with flags := s.alerts.flags ||| 0x01 } } ∧
        (s.windowLaw →
          t.pageOwner p = pageSealed ∧ t.window.read (entryBase p + 1) = s.recordCount p ∧
          t.window.half (entryBase p + 2) = lowHalf (s.pageSeq p) ∧ t.pageSeq p = s.pageSeq p ∧
          t.recordCount p = s.recordCount p ∧ t.window.read (pageBase p + 7) = 2 ∧
          t.window.word (pageBase p + 12) = s.run.stamp ∧
          ∀ a, ¬ (entryBase p ≤ a ∧ a < entryBase p + 4) → ¬ (pageBase p ≤ a ∧ a < pageBase p + 16) →
            t.window.read a = s.window.read a))

/-! ## Chains -/

/-- SETTLE_COMPLETION (R11, R36): SETTLING to WARM, most recent in the LRU order, idle frames 0; an idle reader starts
the read of the WARM chain earliest in the due queue, and a busy one goes on. The completion of a settle that was
abandoned does not follow (R12), nor one of a chain that is not SETTLING (log entry 4). Commanded, it does not wait for
the timer (log entry 10). -/
def Obligations.SettleCompletionMakesWarm : Prop :=
  ∀ (s : State) (c : ChainNo),
    ((s.chain c).stale = true →
      ∃ t, exec (.settleCompletion c) s = .next t ∧ t = { s with chains := t.chains } ∧
        t.chain c = { s.chain c with stale := false } ∧ ∀ d : ChainNo, d ≠ c → t.chain d = s.chain d) ∧
    ((s.chain c).stale = false → (s.chain c).state ≠ .settling → exec (.settleCompletion c) s = .next s) ∧
    ((s.chain c).stale = false → (s.chain c).state = .settling → s.read.isSome = true →
      ∃ t, exec (.settleCompletion c) s = .next t ∧ t = { s with chains := t.chains, lru := s.lru ++ [c] } ∧
        t.chain c = { s.chain c with state := .warm, settle := none, idle := 0 } ∧
        ∀ d : ChainNo, d ≠ c → t.chain d = s.chain d) ∧
    ((s.chain c).stale = false → (s.chain c).state = .settling → s.read = none → s.run.geometry.isSome = true →
      c ∈ s.due → (∀ d ∈ s.due, (s.chain d).state ≠ .warm) →
      ∃ t, exec (.settleCompletion c) s = .next t ∧
        t = { s with chains := t.chains, lru := t.lru, due := t.due, read := t.read } ∧
        t.chain c = { s.chain c with state := .reading, settle := none, idle := 0 } ∧ c ∉ t.lru ∧ c ∉ t.due ∧
        t.read.map ReadInProgress.chain = some c ∧ ∀ d : ChainNo, d ≠ c → t.chain d = s.chain d)

/-- EXCITATION_GRANT (R7, R9, R11): the earliest COLD chain in the due queue goes to SETTLING, its timer at 80 CLKIN
cycles for each unit of 10 µs: at once while the warm set is below W, else in place of the least recent WARM chain that
is neither pinned nor due, which goes COLD; without either, nothing happens. As a command of its own it acts when a
condition holds (log entry 14). -/
def Obligations.GrantServesEarliestColdChain : Prop :=
  ∀ (s : State) (before after : List ChainNo) (c : ChainNo), s.due = before ++ c :: after →
    (∀ d ∈ before, (s.chain d).state ≠ .cold) → (s.chain c).state = .cold →
    (s.warmCount < s.warmLimit →
      ∃ t, exec .excitationGrant s = .next t ∧ t = { s with chains := t.chains } ∧
        t.chain c = { s.chain c with state := .settling, settle := some (80 * (s.chain c).defn.settleTime) } ∧
        ∀ d : ChainNo, d ≠ c → t.chain d = s.chain d) ∧
    (∀ (older newer : List ChainNo) (v : ChainNo), s.warmLimit ≤ s.warmCount → s.lru = older ++ v :: newer →
      (∀ d ∈ older, (s.chain d).state ≠ .warm ∨ (s.chain d).defn.pinned = true ∨ d ∈ s.due) →
      (s.chain v).state = .warm → (s.chain v).defn.pinned = false → v ∉ s.due →
      ∃ t, exec .excitationGrant s = .next t ∧
        t = { s with chains := t.chains, lru := s.lru.filter (· != v) } ∧
        (∃ x, t.chain v = { s.chain v with state := .cold, settle := none, idle := 0, stale := x }) ∧
        t.chain c = { s.chain c with state := .settling, settle := some (80 * (s.chain c).defn.settleTime) } ∧
        ∀ d : ChainNo, d ≠ c → d ≠ v → t.chain d = s.chain d) ∧
    (s.warmLimit ≤ s.warmCount →
      (∀ d ∈ s.lru, (s.chain d).state ≠ .warm ∨ (s.chain d).defn.pinned = true ∨ d ∈ s.due) →
      exec .excitationGrant s = .next s)

/-- READ_START (R36, R37): the idle reader starts the read of the WARM chain earliest in the due queue; the chain leaves
the due queue and the LRU order, the READ_CHAINs on its list are attached, and CLD is active. As a command of its own it
acts when R36 calls for it (log entry 14). BIT_TIME (R39): the load ends with CLD inactive; then each rising edge of
CCLK samples the data input of the chain being read and no other, up to L + 8 bits; nothing outside the reader changes.
The command is one load or one rising edge (log entry 17) and does not wait for the clock (log entry 10). -/
def Obligations.ReadStartsAndSamplesItsBits : Prop :=
  ∀ s : State,
    (∀ (before after : List ChainNo) (c : ChainNo) (g : Geometry), s.read = none →
      s.run.geometry = some g → s.due = before ++ c :: after → (∀ d ∈ before, (s.chain d).state ≠ .warm) →
      (s.chain c).state = .warm →
      ∃ t, exec .readStart s = .next t ∧
        t = { s with chains := t.chains, lru := s.lru.filter (· != c), due := s.due.filter (· != c), read := t.read } ∧
        t.chain c = { s.chain c with state := .reading } ∧ (∀ d : ChainNo, d ≠ c → t.chain d = s.chain d) ∧
        t.cld = true ∧ t.cclk = false ∧
        t.read = some { chain := c, length := (s.chain c).defn.length, attached := (s.chain c).waiting.slots
                        bitTime := (match g.shiftCode with | 0 => 8 | 1 => 16 | 2 => 32 | _ => 64)
                        received := [], loading := true, clockHigh := false, elapsed := 0 }) ∧
    (∀ (rd : ReadInProgress) (inputs : BitVec 16), s.read = some rd →
      ∃ t rd', exec (.bitTime inputs) s = .next t ∧ t = { s with read := some rd' } ∧
        rd'.chain = rd.chain ∧ rd'.length = rd.length ∧ rd'.bitTime = rd.bitTime ∧ rd'.attached = rd.attached ∧
        (rd.loading = true → rd'.received = rd.received ∧ t.cld = false ∧ t.cclk = false) ∧
        (rd.loading = false → rd.received.length < rd.length + 8 →
          rd'.received = rd.received ++ [inputs.getLsbD rd.chain.val] ∧ t.cld = false ∧ t.cclk = true) ∧
        (rd.loading = false → rd.length + 8 ≤ rd.received.length → rd' = rd))

/-! ## Read completion, filter, groups -/

/-- READ_COMPLETION of a good read with no deferred marker on its chain (R18, R43, R44, R45, R54, R138): the read is
counted, a fault episode ends, the image is filtered, the attached READ_CHAINs are answered OK with the image in the
form each asked for; the other chains' images, counters and definitions stand. What it makes of the chain's groups and
of the record of a recovery is GoodReadEvaluatesGroups, the hand-back CompletionHandsChainBack. -/
def Obligations.GoodReadFiltersAndAnswers : Prop :=
  ∀ (s : State) (rd : ReadInProgress) (l : List SlotNo), s.readEnds rd true →
    (s.chain rd.chain).waiting = .reads l → s.windowLaw →
    ∃ t, exec .readCompletion s = .next t ∧
      (t.chain rd.chain).reads = (s.chain rd.chain).reads + 1 ∧
      (t.chain rd.chain).lastRead = lowHalf s.run.stamp ∧ (t.chain rd.chain).faultRun = 0 ∧
      t.image rd.chain = (s.image rd.chain).filter rd.length (s.chain rd.chain).defn.depth rd.received ∧
      (∀ d : ChainNo, (t.chain d).defn = (s.chain d).defn ∧ (t.chain d).late = (s.chain d).late) ∧
      (∀ d : ChainNo, d ≠ rd.chain → t.image d = s.image d ∧ (t.chain d).faultRun = (s.chain d).faultRun ∧
        (t.chain d).reads = (s.chain d).reads ∧ (t.chain d).lastRead = (s.chain d).lastRead) ∧
      (∀ n : GroupNo, (s.group n).defined = false ∨ (s.group n).chain ≠ rd.chain → t.group n = s.group n) ∧
      (∀ k ∈ rd.attached, ∀ r, s.heldOf k = some r → ∃ payload,
        t.showsAnswer k 0x00 (BitVec.ofNat 8 (rd.length / 8)) s.run.stamp payload ∧
        ∀ j, j < 128 → (payload.getD (j / 8) 0).getLsbD (j % 8) =
          (if r.param 1 = 1 then ((t.image rd.chain).point j).filtered else ((t.image rd.chain).point j).raw))

/-- READ_COMPLETION of a good read evaluates every defined group of its chain on the new filtered image, in ascending
group number (R44, R62, R64, R65), after the CHAIN_RECOVERED record of a fault episode that ends (R18, R20): each group
ends with its masked value and the state that it makes, a trip counted and stamped, and the records are generated in
that order. -/
def Obligations.GoodReadEvaluatesGroups : Prop :=
  ∀ (s : State) (rd : ReadInProgress) (l : List SlotNo) (i : Image) (recovered trips : List Record),
    s.readEnds rd true → (s.chain rd.chain).waiting = .reads l →
    i = (s.image rd.chain).filter rd.length (s.chain rd.chain).defn.depth rd.received →
    recovered = (if (s.chain rd.chain).faultRun = 0 then [] else
      [{ seq := 0, kind := .chainRecovered, cls := 0, chain := some rd.chain, group := none, before := 0, after := 0
         detail := BitVec.ofNat 16 (s.chain rd.chain).faultRun, stamp := s.run.stamp }]) →
    trips = (List.finRange 64).filterMap (fun n =>
      if (s.group n).defined = true ∧ (s.group n).chain = rd.chain then
        ((s.group n).tripKind ((s.group n).masked i)).map fun kind =>
          { seq := 0, kind := kind, cls := (s.group n).cls, chain := some rd.chain, group := some n
            before := (s.group n).last, after := (s.group n).masked i, detail := (s.group n).trips + 1
            stamp := s.run.stamp }
      else none) →
    ∃ t, exec .readCompletion s = .next t ∧
      (∀ (n : GroupNo) (g : GroupRec), g = s.group n → g.defined = true → g.chain = rd.chain →
        (g.tripKind (g.masked i) = none → t.group n = { g with
          last := g.masked i
          state := if g.masked i = g.compare &&& g.mask then .conform else .diverged }) ∧
        (g.tripKind (g.masked i) ≠ none → t.group n = { g with
          last := g.masked i
          state := if g.masked i = g.compare &&& g.mask then .conform else .diverged
          trips := g.trips + 1, lastTrip := lowHalf s.run.stamp })) ∧
      t.records = ((recovered ++ trips).foldl State.generate s).records

/-- READ_COMPLETION hands the chain back when nothing is deferred and the read does not make it LOST (R15, R47). In
RUNNING the chain is WARM at the most recent end of the LRU order (case 6), the grant test follows, as many grants as
are called for, which can demote the chain only for a COLD one that is due, and then the reader's next choice, the
earliest WARM chain in the due queue, this chain among them. In DRAINING, where no chain is due, the chain is COLD (case
5), the reader idle, and the drain-end test follows (R159). -/
def Obligations.CompletionHandsChainBack : Prop :=
  ∀ (s : State) (rd : ReadInProgress) (good : Bool) (l : List SlotNo) (c : ChainNo), s.readEnds rd good →
    c = rd.chain → (s.chain c).waiting = .reads l → (s.chain c).state = .reading →
    good = true ∨ (s.chain c).faultRun + 1 < (s.chain c).defn.faultLimit →
    ∃ t, exec .readCompletion s = .next t ∧
      (s.run.state = .running → s.run.geometry.isSome = true → ∀ (u : State) (next : Option ChainNo),
        u = State.after { s with lru := s.lru ++ [c], read := none
                                 chains := s.chains.set c.val { s.chain c with state := .warm, idle := 0 } }
              (List.replicate 16 .excitationGrant) →
        next = s.due.find? (fun d => d == c || (s.chain d).state == .warm) →
        t.read.map ReadInProgress.chain = next ∧
        (∀ rd', t.read = some rd' → rd'.attached = (t.chain rd'.chain).waiting.slots) ∧
        t.due = s.due.filter (fun d => some d != next) ∧ t.lru = u.lru.filter (fun d => some d != next) ∧
        (∀ d : ChainNo, (t.chain d).state = (if next = some d then .reading else (u.chain d).state) ∧
          (t.chain d).settle = (u.chain d).settle ∧ (t.chain d).idle = (u.chain d).idle) ∧
        (t.chain c).idle = 0 ∧ (next = some c ↔ (t.chain c).state = .reading) ∧
        (next ≠ some c → (t.chain c).state = .warm ∧ (∃ older, t.lru = older ++ [c]) ∨
          (t.chain c).state = .cold ∧ c ∉ s.due ∧ (s.chain c).defn.pinned = false ∧
            ∃ d ∈ s.due, (s.chain d).state = .cold ∧ (t.chain d).state = .settling) ∧
        ((∀ d ∈ s.due, (s.chain d).state ≠ .cold) → u.lru = s.lru ++ [c] ∧ (u.chain c).state = .warm)) ∧
      (s.run.state = .draining → s.due = [] →
        (t.chain c).state = .cold ∧ (t.chain c).settle = none ∧ (t.chain c).idle = 0 ∧ c ∉ t.lru ∧ t.due = [] ∧
        t.read = none ∧
        (t.records.queue = [] → t.run = { s.run with state := .idle, frameTimer := none } ∧
          t.flagged .stopped = true ∧ t.pages.current = none) ∧
        (t.records.queue ≠ [] → t.run = s.run ∧ t.frame = s.frame ∧ t.flagged .stopped = s.flagged .stopped))

/-- READ_COMPLETION of a bad read that does not reach the fault limit, nothing deferred (R17, R20, R43, R45, R57): the
fault run rises by one, a CHAIN_FAULT record with detail 1 is generated at the first, images and groups stand, and the
attached READ_CHAINs are answered CHAIN_FAULT with the fault run. The hand-back is CompletionHandsChainBack. -/
def Obligations.BadReadRaisesFaultRun : Prop :=
  ∀ (s : State) (rd : ReadInProgress) (l : List SlotNo), s.readEnds rd false →
    (s.chain rd.chain).waiting = .reads l → (s.chain rd.chain).state = .reading →
    (s.chain rd.chain).faultRun + 1 < (s.chain rd.chain).defn.faultLimit → s.windowLaw →
    ∃ t, exec .readCompletion s = .next t ∧
      (t.chain rd.chain).faultRun = (s.chain rd.chain).faultRun + 1 ∧
      (t.chain rd.chain).reads = (s.chain rd.chain).reads + 1 ∧
      (t.chain rd.chain).lastRead = lowHalf s.run.stamp ∧
      t.images = s.images ∧ t.groups = s.groups ∧
      ((s.chain rd.chain).faultRun = 0 →
        t.flagged .chain = true ∧ (s.tripQueueLaw → t.records.generated = s.records.generated + 1) ∧
        t.records = (s.generate { seq := 0, kind := .chainFault, cls := 0, chain := some rd.chain, group := none
                                  before := 0, after := 0, detail := 1, stamp := s.run.stamp }).records) ∧
      ((s.chain rd.chain).faultRun ≠ 0 →
        t.records = s.records ∧ t.flagged .chain = s.flagged .chain ∧ t.flagged .trip = s.flagged .trip) ∧
      (∀ k ∈ rd.attached, (s.heldOf k).isSome = true →
        t.showsAnswer k 0x07 (BitVec.ofNat 8 ((s.chain rd.chain).faultRun + 1)) s.run.stamp [])

/-- READ_COMPLETION of a bad read that reaches the fault limit, nothing deferred (R17, R19, R20, R45): the chain is LOST,
not excited, out of the due queue and its period counter 0; a CHAIN_LOST record with the fault limit in detail is
generated and CHAIN set; definition, images and groups stand; every READ_CHAIN on its list is answered CHAIN_LOST. The
read is over, and in RUNNING the reader's next choice follows (R36, R47). -/
def Obligations.FaultLimitMakesChainLost : Prop :=
  ∀ (s : State) (rd : ReadInProgress) (l : List SlotNo), s.readEnds rd false →
    (s.chain rd.chain).waiting = .reads l → (s.chain rd.chain).defn.faultLimit ≤ (s.chain rd.chain).faultRun + 1 →
    s.windowLaw →
    ∃ t, exec .readCompletion s = .next t ∧
      (t.chain rd.chain).state = .lost ∧ t.excitation rd.chain = false ∧ rd.chain ∉ t.due ∧
      (t.chain rd.chain).periodCounter = 0 ∧ (t.chain rd.chain).faultRun = (s.chain rd.chain).faultRun + 1 ∧
      (t.chain rd.chain).defn = (s.chain rd.chain).defn ∧ (t.chain rd.chain).late = (s.chain rd.chain).late ∧
      t.images = s.images ∧ t.groups = s.groups ∧ t.flagged .chain = true ∧
      (s.tripQueueLaw → t.records.generated = s.records.generated + 1) ∧
      t.records = (s.generate { seq := 0, kind := .chainLost, cls := 0, chain := some rd.chain, group := none
                                before := 0, after := 0, stamp := s.run.stamp
                                detail := BitVec.ofNat 16 (s.chain rd.chain).defn.faultLimit }).records ∧
      (s.run.state = .running → s.run.geometry.isSome = true →
        t.read.map ReadInProgress.chain = s.due.find? fun d => d != rd.chain && (s.chain d).state == .warm) ∧
      (∀ k, k ∈ rd.attached ∨ k ∈ l → t.showsAnswer k 0x06 0 s.run.stamp [])

/-- A deferred SET_CHAIN or PARK_CHAIN acts at the hand-back of the read it waited for (R15, R135, R141): the new
definition or the park is applied and the request answered OK; a park whose chain the read made LOST is answered
CHAIN_LOST. -/
def Obligations.DeferredRequestActsAtHandBack : Prop :=
  ∀ (s : State) (rd : ReadInProgress) (good : Bool) (k : SlotNo) (r : Request), s.readEnds rd good →
    (s.chain rd.chain).waiting = .deferred k → s.heldOf k = some r →
    r.chain = rd.chain → (s.chain rd.chain).state = .reading → rd.attached = [] → s.windowLaw →
    ∃ t, exec .readCompletion s = .next t ∧ t.read.map ReadInProgress.chain ≠ some rd.chain ∧
      (∀ h ∈ t.requests.taken, h.slot ≠ k) ∧ rd.chain ∉ t.due ∧
      (r.kind = 0x01 →
        t.showsAnswer k 0x00 0 s.run.stamp [] ∧ (t.chain rd.chain).defn = r.chainDef ∧
        (t.chain rd.chain).state = (if r.param 1 = 1 then .cold else .off) ∧ (t.chain rd.chain).faultRun = 0 ∧
        (t.chain rd.chain).reads = 0 ∧ (t.chain rd.chain).late = 0 ∧ t.image rd.chain = Image.reset ∧
        (t.chain rd.chain).periodCounter = (if r.param 1 = 1 then 1 else 0)) ∧
      (r.kind = 0x03 → good = true ∨ (s.chain rd.chain).faultRun + 1 < (s.chain rd.chain).defn.faultLimit →
        t.showsAnswer k 0x00 0 s.run.stamp [] ∧ (t.chain rd.chain).state = .cold ∧
        (t.chain rd.chain).defn = (s.chain rd.chain).defn ∧
        (t.chain rd.chain).periodCounter = (s.chain rd.chain).periodCounter) ∧
      (r.kind = 0x03 → good = false → (s.chain rd.chain).defn.faultLimit ≤ (s.chain rd.chain).faultRun + 1 →
        t.showsAnswer k 0x06 0 s.run.stamp [] ∧ (t.chain rd.chain).state = .lost)

/-- A good read of an unprimed chain sets the filtered image to the raw one, clears the debounce counters and primes
(R55); of a primed chain it passes each point through its debounce (R56). Positions past L stand (R54). -/
def Obligations.GoodReadPrimesOrDebouncesEachPoint : Prop :=
  ∀ (i : Image) (L D : Nat) (bits : List Bool) (k : Nat), k < 128 →
    (i.filter L D bits).primed = true ∧
    (L ≤ k → (i.filter L D bits).point k = i.point k) ∧
    (i.primed = false → k < L →
      (i.filter L D bits).point k = { raw := bits.getD k false, filtered := bits.getD k false, counter := 0 }) ∧
    (i.primed = true → k < L → bits.getD k false = (i.point k).filtered →
      (i.filter L D bits).point k =
        { raw := bits.getD k false, filtered := (i.point k).filtered, counter := 0 }) ∧
    (i.primed = true → k < L → bits.getD k false ≠ (i.point k).filtered → (i.point k).counter + 1 < D →
      (i.filter L D bits).point k =
        { raw := bits.getD k false, filtered := (i.point k).filtered, counter := (i.point k).counter + 1 }) ∧
    (i.primed = true → k < L → bits.getD k false ≠ (i.point k).filtered → (i.point k).counter + 1 = D →
      (i.filter L D bits).point k = { raw := bits.getD k false, filtered := bits.getD k false, counter := 0 }) ∧
    (k < L → (i.point k).counter < D → ((i.filter L D bits).point k).counter < D)

/-- A group's masked value: bit k is the filtered value of point base + k, for k below the width, where the select mask
has a 1 (R60). Which evaluations are trips, and of which kind, by the group's mode (R64); from UNSET none is (R63). -/
def Obligations.TripsFollowMaskedValueAndMode : Prop :=
  ∀ (g : GroupRec) (i : Image) (value : Half) (new : GroupState),
    new = (if value = g.compare &&& g.mask then .conform else .diverged) →
    (∀ k, g.width ≤ 16 → k < 16 →
      (g.masked i).getLsbD k = (decide (k < g.width) && (i.point (g.base + k)).filtered && g.mask.getLsbD k)) ∧
    (g.state = .unset → g.tripKind value = none) ∧
    (g.mode = .diverge →
      g.tripKind value = if g.state = .conform ∧ new = .diverged then some .diverge else none) ∧
    (g.mode = .returns →
      g.tripKind value = if g.state = .diverged ∧ new = .conform then some .returns else none) ∧
    (g.mode = .both →
      g.tripKind value =
        if g.state = .conform ∧ new = .diverged then some .diverge
        else if g.state = .diverged ∧ new = .conform then some .returns else none) ∧
    (g.mode = .step → g.tripKind value = if g.state ≠ .unset ∧ value ≠ g.last then some .step else none)

/-- The evaluation of one group (R62, R63, R65): from UNSET it is silent; a trip counts, stamps the group and hands its
record to the Record Unit before the state and the last value are updated; other groups, images and chains stand. -/
def Obligations.EvaluationUpdatesGroupAndGeneratesTrip : Prop :=
  ∀ (s : State) (n : GroupNo) (g : GroupRec) (value : Half), g = s.group n → value = g.masked (s.image g.chain) →
    ((s.evaluateGroup n).group n).last = value ∧
    ((s.evaluateGroup n).group n).state = (if value = g.compare &&& g.mask then .conform else .diverged) ∧
    (∀ m : GroupNo, m ≠ n → (s.evaluateGroup n).group m = s.group m) ∧
    (s.evaluateGroup n).images = s.images ∧ (s.evaluateGroup n).chains = s.chains ∧
    (g.tripKind value = none →
      s.evaluateGroup n = { s with groups := (s.evaluateGroup n).groups } ∧
      ((s.evaluateGroup n).group n).trips = g.trips ∧ ((s.evaluateGroup n).group n).lastTrip = g.lastTrip) ∧
    (∀ kind, g.tripKind value = some kind →
      ((s.evaluateGroup n).group n).trips = g.trips + 1 ∧
      ((s.evaluateGroup n).group n).lastTrip = lowHalf s.run.stamp ∧
      (s.evaluateGroup n).records =
        ((s.setGroup n { g with trips := g.trips + 1, lastTrip := lowHalf s.run.stamp }).generate
          { seq := 0, kind := kind, cls := g.cls, chain := some g.chain, group := some n, before := g.last
            after := value, detail := g.trips + 1, stamp := s.run.stamp }).records)

/-! ## Records -/

/-- A record generated while fewer than 12 wait, no page is held and none is FREE joins the queue at its tail with the
current record sequence, which then rises by one (R79, R80, R81). One generated while 12 wait is dropped (R83): no
sequence is given, lost total and overrun pending rise, pending holding at 65535, and the first drop begins an episode
and sets OVERRUN, which later drops do not. -/
def Obligations.GeneratedRecordIsQueuedOrDropped : Prop :=
  ∀ (s : State) (r : Record),
    (s.records.queue.length < 12 → s.pages.current = none → s.pageCount ≤ 40 →
      (∀ p : PageNo, p.val < s.pageCount → s.pageOwner p ≠ pageFree) →
      (s.generate r).records =
        { s.records with queue := s.records.queue ++ [{ r with seq := s.records.seq }]
                         seq := s.records.seq + 1, generated := s.records.generated + 1 } ∧
      (s.generate r).window = s.window ∧ (s.generate r).pages = s.pages) ∧
    (s.records.queue.length = 12 →
      ∃ t, s.generate r = t ∧ t = { s with records := t.records, alerts := t.alerts } ∧
        t.records = { s.records with
          generated := s.records.generated + 1, lost := s.records.lost + 1
          overrun := if s.records.overrun = 65535 then 65535 else s.records.overrun + 1
          episodes := if s.records.overrun = 0 then s.records.episodes + 1 else s.records.episodes } ∧
        t.flagged .overrun = (s.flagged .overrun || s.records.overrun == 0))

/-- A record generated while a page is held goes into its next place, and the counts in header and entry rise (R81, R97,
R100); the 15th seals the page FULL (R102). One generated with no page held and a FREE one found opens it, and every
record waiting goes into it in order, the new one last (R97, R99). No losses are pending. -/
def Obligations.GeneratedRecordReachesPage : Prop :=
  ∀ (s t : State) (r : Record) (p : PageNo) (n : Nat), t = s.generate r → s.windowLaw → s.records.overrun = 0 →
    (s.pages.current = some p → s.records.queue = [] → s.recordCount p = BitVec.ofNat 8 n → n < 15 →
      t.records = { s.records with seq := s.records.seq + 1, generated := s.records.generated + 1
                                   written := s.records.written + 1 } ∧
      t.window.readBytes (placeBase p (n + 1)) 16 = Record.bytes { r with seq := s.records.seq } ∧
      t.recordCount p = BitVec.ofNat 8 (n + 1) ∧ t.window.read (entryBase p + 1) = BitVec.ofNat 8 (n + 1) ∧
      (n < 14 → t.pages = s.pages ∧ t.flagged .sealed = s.flagged .sealed ∧
        ∀ a, ¬ (placeBase p (n + 1) ≤ a ∧ a < placeBase p (n + 1) + 16) → a ≠ pageBase p + 6 → a ≠ entryBase p + 1 →
          t.window.read a = s.window.read a) ∧
      (n = 14 → t.pages = { s.pages with current := none, sealTimer := 0, sealed := s.pages.sealed + 1
                                         lastSealed := s.pageSeq p } ∧
        t.flagged .sealed = true ∧ t.pageOwner p = pageSealed ∧ t.pageSeq p = s.pageSeq p ∧
        t.window.half (entryBase p + 2) = lowHalf (s.pageSeq p) ∧ t.window.read (pageBase p + 7) = 1 ∧
        t.window.word (pageBase p + 12) = s.run.stamp ∧
        ∀ a, ¬ (placeBase p 15 ≤ a ∧ a < placeBase p 15 + 16) → ¬ (pageBase p ≤ a ∧ a < pageBase p + 16) →
          ¬ (entryBase p ≤ a ∧ a < entryBase p + 4) → t.window.read a = s.window.read a)) ∧
    (∀ rs : List Record, s.pages.current = none → s.records.queue.length < 12 → s.searchPage = some p →
      rs = s.records.queue ++ [{ r with seq := s.records.seq }] →
      t.records = { s.records with queue := [], seq := s.records.seq + 1, generated := s.records.generated + 1
                                   written := s.records.written + BitVec.ofNat 32 rs.length } ∧
      t.pages = { s.pages with current := some p, cursor := p, nextSeq := s.pages.nextSeq + 1, sealTimer := 0 } ∧
      t.pageOwner p = pageFilling ∧ t.window.read (entryBase p + 1) = BitVec.ofNat 8 rs.length ∧
      t.recordCount p = BitVec.ofNat 8 rs.length ∧ t.pageSeq p = s.pages.nextSeq ∧
      t.window.word (pageBase p + 8) = s.run.stamp ∧
      (∀ i q, rs[i]? = some q → t.window.readBytes (placeBase p (i + 1)) 16 = q.bytes) ∧
      ∀ a, ¬ (entryBase p ≤ a ∧ a < entryBase p + 4) → ¬ (pageBase p ≤ a ∧ a < pageBase p + 0x100) →
        t.window.read a = s.window.read a)

/-- The Page Writer takes the head of the trip queue: the record is counted written (R82). When losses are pending, an
OVERRUN record is generated in the same event (R84): behind the records waiting, with the next sequence, the episode in
after and overrun pending in detail; pending returns to 0, no flag is set. -/
def Obligations.FreedPlaceTakesOverrunRecord : Prop :=
  ∀ (s : State) (head : Record) (rest : List Record), s.records.queue = head :: rest →
    (s.records.overrun = 0 →
      s.removeHead = { s with records := { s.records with queue := rest, written := s.records.written + 1 } }) ∧
    (s.records.overrun ≠ 0 →
      s.removeHead = { s with records := { s.records with
        queue := rest ++ [{ seq := s.records.seq, kind := .overrun, cls := 0, chain := none, group := none, before := 0
                            after := s.records.episodes, detail := s.records.overrun, stamp := s.run.stamp }]
        seq := s.records.seq + 1, generated := s.records.generated + 1, written := s.records.written + 1
        overrun := 0 } })

/-- The flags a generation sets, whether the record is appended or dropped (R86, R170): TRIP when its class is above the
alert level, CHAIN for CHAIN_FAULT and CHAIN_LOST; no other flag but SEALED, when the record fills a page, and OVERRUN,
when the drop begins an episode. -/
def Obligations.GenerationSetsTripAndChainFlags : Prop :=
  ∀ (s : State) (r : Record),
    (s.generate r).flagged .trip = (s.flagged .trip || decide (s.alerts.level.toNat < r.cls.val)) ∧
    (s.generate r).flagged .chain = (s.flagged .chain || r.kind == .chainFault || r.kind == .chainLost) ∧
    (r.cls = 0 → (s.generate r).flagged .trip = s.flagged .trip) ∧
    (∀ f : Flag, f = .answer ∨ f = .stopped ∨ f = .board → (s.generate r).flagged f = s.flagged f) ∧
    (s.generate r).alerts.enables = s.alerts.enables ∧ (s.generate r).alerts.level = s.alerts.level

/-! ## Pages -/

/-- The search visits the page table in cyclic order after the cursor and finds the first entry that reads FREE (R98).
-/
def Obligations.SearchFindsFirstFreeAfterCursor : Prop :=
  ∀ (s : State) (p : PageNo),
    (s.searchPage = some p ↔ ∃ i, i < s.pageCount ∧
      p = Fin.ofNat 40 ((s.pages.cursor.val + 1 + i) % s.pageCount) ∧ s.pageOwner p = pageFree ∧
      ∀ j, j < i → s.pageOwner (Fin.ofNat 40 ((s.pages.cursor.val + 1 + j) % s.pageCount)) ≠ pageFree) ∧
    (s.searchPage = none ↔ ∀ i, i < s.pageCount →
      s.pageOwner (Fin.ofNat 40 ((s.pages.cursor.val + 1 + i) % s.pageCount)) ≠ pageFree)

/-- PAGE_ACQUISITION (R84, R97, R99, R100): the page found becomes current with the next page sequence, and every
waiting record goes into it in order, with the OVERRUN record of an open episode behind them; with no FREE page, or no
record, the attempt changes nothing. In DRAINING with the reader idle an empty queue then ends the drain in the same
event (R159): the page just opened is sealed STOP and the run is IDLE. The command is the Page Writer's outstanding work
with no page held (log entry 14). -/
def Obligations.AcquisitionTakesWaitingRecords : Prop :=
  ∀ (s : State), s.frame.pageWork = true → s.pages.current = none → s.records.queue.length ≤ 12 → s.windowLaw →
    (s.run.state = .running ∨ s.read.isSome = true ∨ s.records.queue ≠ [] →
      s.records.queue = [] ∨ s.searchPage = none →
      exec .pageAcquisition s = .next { s with frame := { s.frame with pageWork := false } }) ∧
    (s.run.state = .draining → s.read = none → s.records.queue = [] →
      exec .pageAcquisition s = .next { s with
        run := { s.run with state := .idle, frameTimer := none }, frame := FrameWork.empty
        alerts := { s.alerts with flags := s.alerts.flags ||| 0x20 } }) ∧
    (∀ (p : PageNo) (rs : List Record) (ends : Bool), s.run.state = .running ∨ s.run.state = .draining →
      (ends = true ↔ s.run.state = .draining ∧ s.read = none) → s.records.queue ≠ [] → s.searchPage = some p →
      rs = s.records.queue ++ (if s.records.overrun = 0 then [] else [s.overrunRecord]) →
      ∃ t, exec .pageAcquisition s = .next t ∧
        (ends = false →
          t = { s with frame := { s.frame with pageWork := false }, window := t.window, records := t.records
                       pages := { s.pages with current := some p, cursor := p, nextSeq := s.pages.nextSeq + 1
                                               sealTimer := 0 } }) ∧
        (ends = true →
          t = { s with run := { s.run with state := .idle, frameTimer := none }, frame := FrameWork.empty
                       window := t.window, records := t.records
                       alerts := { s.alerts with flags := s.alerts.flags ||| 0x21 }
                       pages := { s.pages with current := none, cursor := p, nextSeq := s.pages.nextSeq + 1
                                               sealTimer := 0, sealed := s.pages.sealed + 1
                                               lastSealed := s.pages.nextSeq } }) ∧
        t.records.queue = [] ∧ t.records.overrun = 0 ∧ t.records.lost = s.records.lost ∧
        t.records.written = s.records.written + BitVec.ofNat 32 rs.length ∧
        t.pageOwner p = (if ends then pageSealed else pageFilling) ∧
        t.window.read (entryBase p + 1) = BitVec.ofNat 8 rs.length ∧
        t.window.half (entryBase p + 2) = lowHalf s.pages.nextSeq ∧
        t.pageSeq p = s.pages.nextSeq ∧ t.window.half (pageBase p + 4) = s.headSeq ∧
        t.recordCount p = BitVec.ofNat 8 rs.length ∧ t.window.read (pageBase p + 7) = (if ends then 4 else 0) ∧
        t.window.word (pageBase p + 8) = s.run.stamp ∧
        t.window.word (pageBase p + 12) = (if ends then s.run.stamp else 0) ∧
        (∀ i r, rs[i]? = some r → t.window.readBytes (placeBase p (i + 1)) 16 = r.bytes) ∧
        (∀ a, placeBase p (rs.length + 1) ≤ a → a < pageBase p + 0x100 → t.window.read a = 0) ∧
        (∀ a, ¬ (entryBase p ≤ a ∧ a < entryBase p + 4) → ¬ (pageBase p ≤ a ∧ a < pageBase p + 0x100) →
          t.window.read a = s.window.read a))

/-! ## Requests. `s.nextTake k rest` says that the outstanding sweep takes slot `k` next. The request is what the slot's
host part holds at the take (R117) -/

/-- A take refused by a check (R117, R129) leaves the part as it was, but for the slot's answer, the ANSWER flag and the
sweep cursor: the same for each of the six kinds that have checks, and for a kind byte outside 01h to 07h, BAD_KIND
(R128). The command takes the sweep's next POSTED slot (log entry 16). -/
def Obligations.RefusedTakeChangesOnlyItsSlot : Prop :=
  ∀ (s : State) (k : SlotNo) (rest : List SlotNo) (r : Request) (a : Answer) (c : Instr),
    s.nextTake k rest → s.windowLaw → s.takenLaw → r = s.readRequest k →
    ((r.kind = 0x01 ∧ c = .setChain ∧ s.checkSetChain r = some a) ∨
     (r.kind = 0x02 ∧ c = .readChain ∧ s.checkReadChain r = some a) ∨
     (r.kind = 0x03 ∧ c = .parkChain ∧ s.checkParkChain r = some a) ∨
     (r.kind = 0x04 ∧ c = .setGroup ∧ s.checkSetGroup r = some a) ∨
     (r.kind = 0x05 ∧ c = .rearmGroup ∧ s.checkRearm r = some a) ∨
     (r.kind = 0x06 ∧ c = .dropGroup ∧ s.checkDrop r = some a) ∨
     ((r.kind = 0 ∨ 8 ≤ r.kind.toNat) ∧ c = .badKind ∧ a = { result := .badKind, detail := 0, payload := [] })) →
    ∃ t, exec c s = .next t ∧
      t = { s with frame := { s.frame with sweep := rest }, window := t.window
                   requests := { taken := s.requests.taken, cursor := k }
                   alerts := { s.alerts with flags := s.alerts.flags ||| 0x04 } } ∧
      t.showsAnswer k a.result.code a.detail s.run.stamp [] ∧ s.windowKeptBut t k

/-- The checks of the requests in order (R129, R131 to R133, R136, R140, R142, R143, R145, R147). The first parameter
out of its range, counting from 1, refuses with RANGE before any other check, and parameters all in range do not; then
the checks that read the part. A pin counts the other chains that are pinned or that a deferred SET_CHAIN will pin
(R133); the group reported is the lowest that reaches beyond the length (R132); a group must also fit the length a
deferred SET_CHAIN will install (R143). -/
def Obligations.RequestChecksInOrder : Prop :=
  ∀ (s : State) (r : Request) (c : ChainNo), c = r.chain →
    (∀ (n : Nat) (ranges : List (Nat × Nat)) (check : Request → Option Answer),
      ((check = s.checkSetChain ∧ ranges =
          [(0, 15), (0, 1), (1, 16), (1, 255), (1, 8), (0, 255), (0, 255), (1, 7), (1, 254), (0, 1)]) ∨
       (check = s.checkReadChain ∧ ranges = [(0, 15), (0, 1)]) ∨ (check = s.checkParkChain ∧ ranges = [(0, 15)]) ∨
       (check = s.checkSetGroup ∧ ranges = [(0, 63), (0, 15), (0, 127), (1, 16), (0, 3), (0, 3)]) ∨
       (check = s.checkRearm ∧ ranges = [(0, 63)]) ∨ (check = s.checkDrop ∧ ranges = [(0, 63)])) →
      (∀ i lo hi, i < n → ranges[i]? = some (lo, hi) → lo ≤ r.param i ∧ r.param i ≤ hi) →
      (∀ lo hi, ranges[n]? = some (lo, hi) → ¬ (lo ≤ r.param n ∧ r.param n ≤ hi)) → n < ranges.length →
      check r = some ⟨.range, BitVec.ofNat 8 (n + 1), []⟩) ∧
    (∀ (ranges : List (Nat × Nat)) (found : Option Answer),
      ((found = rangeRefusal r.setChainRanges ∧ ranges =
          [(0, 15), (0, 1), (1, 16), (1, 255), (1, 8), (0, 255), (0, 255), (1, 7), (1, 254), (0, 1)]) ∨
       (found = rangeRefusal r.readChainRanges ∧ ranges = [(0, 15), (0, 1)]) ∨
       (found = rangeRefusal r.parkChainRanges ∧ ranges = [(0, 15)]) ∨
       (found = rangeRefusal r.setGroupRanges ∧ ranges = [(0, 63), (0, 15), (0, 127), (1, 16), (0, 3), (0, 3)]) ∨
       (found = rangeRefusal r.rearmRanges ∧ ranges = [(0, 63)]) ∨
       (found = rangeRefusal r.dropRanges ∧ ranges = [(0, 63)])) →
      (∀ i lo hi, ranges[i]? = some (lo, hi) → lo ≤ r.param i ∧ r.param i ≤ hi) → found = none) ∧
    (s.takenLaw → ∃ others : List ChainNo, others.Nodup ∧ others.length = s.othersPinned c ∧
      ∀ d : ChainNo, d ∈ others ↔ d ≠ c ∧ ((s.chain d).defn.pinned = true ∨
        ∃ h ∈ s.requests.taken, (s.chain d).waiting = .deferred h.slot ∧ h.request.kind = 0x01 ∧
          h.request.param 9 = 1)) ∧
    (∀ (l : Nat) (beyond : GroupNo → Prop), (∀ n, beyond n ↔ (s.group n).defined = true ∧ (s.group n).chain = c ∧
        l < (s.group n).base + (s.group n).width) →
      (s.groupBeyond c l = none ↔ ∀ n, ¬ beyond n) ∧
      ∀ n, s.groupBeyond c l = some n ↔ beyond n ∧ ∀ m, m < n → ¬ beyond m) ∧
    (s.takenLaw → ∀ (d : ChainNo) (l : Nat), l ∈ s.lengthsToFit d ↔ l = (s.chain d).defn.length ∨
      ∃ h ∈ s.requests.taken, (s.chain d).waiting = .deferred h.slot ∧ h.request.kind = 0x01 ∧
        l = 8 * h.request.param 2) ∧
    (rangeRefusal r.setChainRanges = none →
      s.checkSetChain r =
        if r.param 9 = 1 ∧ s.warmLimit - 1 ≤ s.othersPinned c then some ⟨.range, 10, []⟩
        else match s.groupBeyond c (8 * r.param 2) with
          | some n => some ⟨.conflict, BitVec.ofNat 8 n.val, []⟩
          | none => if (s.chain c).waiting ≠ .reads [] then some ⟨.conflict, 0xFF, []⟩ else none) ∧
    (rangeRefusal r.readChainRanges = none →
      s.checkReadChain r =
        if (s.chain c).state = .off then some ⟨.chainOff, 0, []⟩
        else if (s.chain c).state = .lost then some ⟨.chainLost, 0, []⟩
        else match (s.chain c).waiting with
          | .deferred _ => some ⟨.conflict, 0xFF, []⟩
          | .reads _ => none) ∧
    (rangeRefusal r.parkChainRanges = none →
      s.checkParkChain r =
        if (s.chain c).state = .off then some ⟨.chainOff, 0, []⟩
        else if (s.chain c).state = .lost then some ⟨.chainLost, 0, []⟩
        else if (s.chain c).waiting ≠ .reads [] then some ⟨.conflict, 0xFF, []⟩ else none) ∧
    (rangeRefusal r.setGroupRanges = none →
      s.checkSetGroup r =
        if (s.chain r.groupRec.chain).state = .off then some ⟨.chainOff, 0, []⟩
        else if ∃ l ∈ s.lengthsToFit r.groupRec.chain, l ≤ r.param 2 then some ⟨.range, 3, []⟩
        else if ∃ l ∈ s.lengthsToFit r.groupRec.chain, l < r.param 2 + r.param 3 then some ⟨.range, 4, []⟩
        else if ∃ i : Fin 16, r.param 3 ≤ i.val ∧ (r.param16 6).getLsbD i.val = true then some ⟨.range, 7, []⟩
        else if ∃ i : Fin 16, r.param 3 ≤ i.val ∧ (r.param16 8).getLsbD i.val = true then some ⟨.range, 8, []⟩
        else none) ∧
    (rangeRefusal r.rearmRanges = none →
      s.checkRearm r =
        if (s.group r.group).defined = false then some ⟨.noGroup, 0, []⟩
        else if ∃ i : Fin 16, (s.group r.group).width ≤ i.val ∧ (r.param16 1).getLsbD i.val = true
          then some ⟨.range, 2, []⟩
        else none) ∧
    (rangeRefusal r.dropRanges = none →
      s.checkDrop r = if (s.group r.group).defined = false then some ⟨.noGroup, 0, []⟩ else none)

/-- SET_CHAIN accepted on a chain that is not READING (R22, R58, R134): the definition is installed, the chain starts
afresh COLD or OFF, out of the due queue and the LRU order, unprimed, its groups UNSET, and the answer is OK in the
take; the other chains keep all but the state a grant may change. A settle abandoned by it has no completion, the one
already in the queue included (R12, log entry 10). -/
def Obligations.SetChainReconfigures : Prop :=
  ∀ (s : State) (k : SlotNo) (rest : List SlotNo) (r : Request) (c : ChainNo), s.nextTake k rest → s.windowLaw →
    s.takenLaw → r = s.readRequest k → r.kind = 0x01 → c = r.chain → s.checkSetChain r = none →
    (s.chain c).state ≠ .reading →
    ∃ t, exec .setChain s = .next t ∧
      t = { s with frame := { s.frame with sweep := rest, expiries := s.frame.expiries.filter (· != c) }
                   due := s.due.filter (· != c), chains := t.chains, lru := t.lru, images := t.images
                   groups := t.groups, window := t.window, requests := { taken := s.requests.taken, cursor := k }
                   alerts := { s.alerts with flags := s.alerts.flags ||| 0x04 } } ∧
      t.chain c = { s.chain c with
        defn := { enabled := r.param 1 == 1, length := 8 * r.param 2, settleTime := r.param 3, depth := r.param 4
                  period := r.param 5, coolDown := r.param 6, faultLimit := r.param 7
                  checkPattern := BitVec.ofNat 8 (r.param 8), pinned := r.param 9 == 1 }
        state := if r.param 1 = 1 then .cold else .off
        faultRun := 0, late := 0, reads := 0, idle := 0, lastRead := 0, settle := none
        stale := (s.chain c).stale || (s.chain c).settle == some 0
        periodCounter := if r.param 1 = 1 then 1 else 0 } ∧
      c ∉ t.lru ∧
      t.image c = Image.reset ∧ (∀ d : ChainNo, d ≠ c → t.image d = s.image d) ∧
      (∀ n : GroupNo, t.group n =
        if (s.group n).defined = true ∧ (s.group n).chain = c then { s.group n with state := .unset, last := 0 }
        else s.group n) ∧
      (∀ d : ChainNo, d ≠ c → (t.chain d).defn = (s.chain d).defn ∧ (t.chain d).waiting = (s.chain d).waiting ∧
        (t.chain d).periodCounter = (s.chain d).periodCounter ∧ (t.chain d).faultRun = (s.chain d).faultRun ∧
        (t.chain d).late = (s.chain d).late ∧ (t.chain d).reads = (s.chain d).reads ∧
        (t.chain d).lastRead = (s.chain d).lastRead) ∧
      t.showsAnswer k 0x00 0 s.run.stamp [] ∧ s.windowKeptBut t k

/-- SET_CHAIN or PARK_CHAIN accepted on a READING chain (R21, R135, R141): the slot stays TAKEN as the chain's deferred
marker; nothing else changes. -/
def Obligations.RequestOnReadingChainIsDeferred : Prop :=
  ∀ (s : State) (k : SlotNo) (rest : List SlotNo) (r : Request) (c : ChainNo) (i : Instr), s.nextTake k rest →
    s.windowLaw → s.takenLaw → r = s.readRequest k → c = r.chain → (s.chain c).state = .reading →
    ((r.kind = 0x01 ∧ i = .setChain ∧ s.checkSetChain r = none) ∨
     (r.kind = 0x03 ∧ i = .parkChain ∧ s.checkParkChain r = none)) →
    ∃ t, exec i s = .next t ∧
      t = { s with frame := { s.frame with sweep := rest }, chains := t.chains, window := t.window
                   requests := { taken := s.requests.taken ++ [{ slot := k, request := r }], cursor := k } } ∧
      t.chain c = { s.chain c with waiting := .deferred k } ∧ (∀ d : ChainNo, d ≠ c → t.chain d = s.chain d) ∧
      t.slotOwner k = slotTaken ∧ ∀ a, a ≠ slotBase k → t.window.read a = s.window.read a

/-- READ_CHAIN accepted (R33, R137): the slot stays TAKEN at the end of its chain's list, with its request held, and the
chain is due: where it stands if it was, else at the end of the queue, unless an idle reader starts its read at once. -/
def Obligations.ReadChainWaitsOnItsChain : Prop :=
  ∀ (s : State) (k : SlotNo) (rest : List SlotNo) (r : Request) (c : ChainNo) (l : List SlotNo), s.nextTake k rest →
    s.windowLaw → s.takenLaw → r = s.readRequest k → r.kind = 0x02 → c = r.chain → s.checkReadChain r = none →
    (s.chain c).waiting = .reads l →
    ∃ t, exec .readChain s = .next t ∧
      t = { s with frame := { s.frame with sweep := rest }, chains := t.chains, lru := t.lru, due := t.due
                   read := t.read, window := t.window
                   requests := { taken := s.requests.taken ++ [{ slot := k, request := r }], cursor := k } } ∧
      t.slotOwner k = slotTaken ∧ (∀ a, a ≠ slotBase k → t.window.read a = s.window.read a) ∧
      (t.chain c).waiting = .reads (l ++ [k]) ∧
      (∀ d : ChainNo, (t.chain d).defn = (s.chain d).defn ∧ (t.chain d).late = (s.chain d).late ∧
        (d ≠ c → (t.chain d).waiting = (s.chain d).waiting)) ∧
      (c ∈ s.due → t.due = s.due ∧ t.read = s.read ∧ t.lru = s.lru ∧
        t.chain c = { s.chain c with waiting := .reads (l ++ [k]) }) ∧
      (c ∉ s.due → (s.chain c).state = .reading → t.due = s.due ++ [c] ∧ t.read = s.read) ∧
      (c ∉ s.due → (s.chain c).state = .cold → t.due = s.due ++ [c] ∧ t.read = s.read) ∧
      (c ∉ s.due → (s.chain c).state = .warm → s.read.isSome = true → t.due = s.due ++ [c] ∧ t.read = s.read) ∧
      (c ∉ s.due → (s.chain c).state = .warm → s.read = none → s.run.geometry.isSome = true →
        (∀ d ∈ s.due, (s.chain d).state ≠ .warm) →
        t.due = s.due ∧ (t.chain c).state = .reading ∧
        t.read.map (fun rd => (rd.chain, rd.attached)) = some (c, l ++ [k]))

/-- PARK_CHAIN accepted on a chain that is not READING (R23, R141): COLD, out of the due queue and the LRU order; its
definition, counters, image, groups and period counter stand; answered OK in the take. A settle abandoned by it has no
completion, the one already in the queue included (R12, log entry 10). -/
def Obligations.ParkChainGoesCold : Prop :=
  ∀ (s : State) (k : SlotNo) (rest : List SlotNo) (r : Request) (c : ChainNo), s.nextTake k rest → s.windowLaw →
    s.takenLaw → r = s.readRequest k → r.kind = 0x03 → c = r.chain → s.checkParkChain r = none →
    (s.chain c).state ≠ .reading →
    ∃ t, exec .parkChain s = .next t ∧
      t = { s with frame := { s.frame with sweep := rest }, chains := t.chains, lru := t.lru, due := t.due
                   window := t.window, requests := { taken := s.requests.taken, cursor := k }
                   alerts := { s.alerts with flags := s.alerts.flags ||| 0x04 } } ∧
      t.chain c = { s.chain c with
        state := .cold, settle := none, idle := 0
        stale := (s.chain c).stale || (s.chain c).settle == some 0 } ∧
      t.excitation c = false ∧
      t.due = s.due.filter (· != c) ∧ c ∉ t.lru ∧
      (∀ d : ChainNo, d ≠ c → (t.chain d).defn = (s.chain d).defn ∧ (t.chain d).waiting = (s.chain d).waiting ∧
        (t.chain d).periodCounter = (s.chain d).periodCounter) ∧
      t.showsAnswer k 0x00 0 s.run.stamp [] ∧ s.windowKeptBut t k

/-- SET_GROUP accepted (R66, R144): the group record is installed whole; on a primed chain its state and last value are
set silently from the filtered image, on an unprimed one it is UNSET; answered OK in the take. -/
def Obligations.SetGroupDefinesGroup : Prop :=
  ∀ (s : State) (k : SlotNo) (rest : List SlotNo) (r : Request) (g : GroupRec), s.nextTake k rest → s.windowLaw →
    s.takenLaw → r = s.readRequest k → r.kind = 0x04 → s.checkSetGroup r = none →
    g = { defined := true, chain := Fin.ofNat 16 (r.param 1), base := r.param 2, width := r.param 3
          mask := halfOf (BitVec.ofNat 8 (r.param 6)) (BitVec.ofNat 8 (r.param 7))
          compare := halfOf (BitVec.ofNat 8 (r.param 8)) (BitVec.ofNat 8 (r.param 9))
          mode := (match r.param 4 with | 0 => .diverge | 1 => .returns | 2 => .both | _ => .step)
          cls := Fin.ofNat 4 (r.param 5), state := .unset, last := 0, trips := 0, lastTrip := 0 } →
    ∃ t, exec .setGroup s = .next t ∧
      t = { s with frame := { s.frame with sweep := rest }, groups := t.groups, window := t.window
                   requests := { taken := s.requests.taken, cursor := k }
                   alerts := { s.alerts with flags := s.alerts.flags ||| 0x04 } } ∧
      (∀ n : GroupNo, n.val ≠ r.param 0 → t.group n = s.group n) ∧
      ((s.image g.chain).primed = false → ∀ n : GroupNo, n.val = r.param 0 → t.group n = g) ∧
      ((s.image g.chain).primed = true → ∀ n : GroupNo, n.val = r.param 0 →
        t.group n = { g with
          last := g.masked (s.image g.chain)
          state := if g.masked (s.image g.chain) = g.compare &&& g.mask then .conform else .diverged }) ∧
      t.showsAnswer k 0x00 0 s.run.stamp [] ∧ s.windowKeptBut t k

/-- REARM_GROUP accepted (R67, R146): the compare pattern is replaced and the state of a group that is not UNSET is
recomputed from its last value, silently; answered OK in the take. DROP_GROUP accepted (R68, R147): the group's record
returns to its hard-reset values, undefined, and its mirror entry reads zero; records already generated stand; answered
OK in the take. -/
def Obligations.RearmAndDropGroup : Prop :=
  ∀ (s : State) (k : SlotNo) (rest : List SlotNo) (r : Request) (n : GroupNo), s.nextTake k rest →
    s.windowLaw → s.takenLaw → r = s.readRequest k → n.val = r.param 0 →
    (∀ pattern : Half, r.kind = 0x05 → s.checkRearm r = none →
      pattern = halfOf (BitVec.ofNat 8 (r.param 1)) (BitVec.ofNat 8 (r.param 2)) →
      ∃ t, exec .rearmGroup s = .next t ∧
        t = { s with frame := { s.frame with sweep := rest }, groups := t.groups, window := t.window
                     requests := { taken := s.requests.taken, cursor := k }
                     alerts := { s.alerts with flags := s.alerts.flags ||| 0x04 } } ∧
        (∀ m : GroupNo, m ≠ n → t.group m = s.group m) ∧
        t.group n = { s.group n with
          compare := pattern
          state := if (s.group n).state = .unset then .unset
                   else if (s.group n).last = pattern &&& (s.group n).mask then .conform else .diverged } ∧
        t.showsAnswer k 0x00 0 s.run.stamp [] ∧ s.windowKeptBut t k) ∧
    (r.kind = 0x06 → s.checkDrop r = none →
      ∃ t, exec .dropGroup s = .next t ∧
        t = { s with frame := { s.frame with sweep := rest }, groups := t.groups, window := t.window
                     requests := { taken := s.requests.taken, cursor := k }
                     alerts := { s.alerts with flags := s.alerts.flags ||| 0x04 } } ∧
        (∀ m : GroupNo, m ≠ n → t.group m = s.group m) ∧
        t.group n = { defined := false, chain := 0, base := 0, width := 1, mask := 0, compare := 0, mode := .diverge
                      cls := 0, state := .unset, last := 0, trips := 0, lastTrip := 0 } ∧
        (∀ i, i < 8 → t.windowByte (0x480 + n.val * 8 + i) = 0) ∧
        t.showsAnswer k 0x00 0 s.run.stamp [] ∧ s.windowKeptBut t k)

/-- FLUSH (R104, R148): a current page is sealed FLUSH and its page sequence answered with detail 1; without one nothing
is sealed and the detail is 0. A page is held only with no record waiting (R97). -/
def Obligations.FlushSealsCurrentPage : Prop :=
  ∀ (s : State) (k : SlotNo) (rest : List SlotNo), s.nextTake k rest → s.windowLaw → s.takenLaw →
    (s.readRequest k).kind = 0x07 →
    (s.pages.current = none →
      ∃ t, exec .flush s = .next t ∧
        t = { s with frame := { s.frame with sweep := rest }, window := t.window
                     requests := { taken := s.requests.taken, cursor := k }
                     alerts := { s.alerts with flags := s.alerts.flags ||| 0x04 } } ∧
        t.showsAnswer k 0x00 0 s.run.stamp [] ∧ s.windowKeptBut t k) ∧
    (∀ p, s.pages.current = some p → s.records.queue = [] →
      ∃ t, exec .flush s = .next t ∧
        t = { s with frame := { s.frame with sweep := rest }, window := t.window
                     requests := { taken := s.requests.taken, cursor := k }
                     alerts := { s.alerts with flags := s.alerts.flags ||| 0x05 }
                     pages := { s.pages with current := none, sealTimer := 0, sealed := s.pages.sealed + 1
                                             lastSealed := s.pageSeq p } } ∧
        t.showsAnswer k 0x00 1 s.run.stamp (wordBytes (s.pageSeq p)) ∧
        t.pageOwner p = pageSealed ∧ t.window.read (pageBase p + 7) = 3 ∧
        t.window.word (pageBase p + 12) = s.run.stamp ∧ t.recordCount p = s.recordCount p)

/-! ## Laws that every step keeps -/

/-- The part right after reset satisfies every law below. -/
def Obligations.ResetSatisfiesEveryLaw : Prop :=
  State.reset.windowLaw ∧ State.reset.initLaw ∧ State.reset.balanceLaw ∧ State.reset.tripQueueLaw ∧
  State.reset.takenLaw ∧ State.reset.warmLaw ∧ State.reset.groupLaw ∧ State.reset.pinLaw ∧ State.reset.imageLaw

/-- The window RAM keeps its canonical form. -/
def Obligations.StepKeepsWindowCanonical : Prop :=
  ∀ s t : State, s.windowLaw → step s = .next t → t.windowLaw

/-- Through INIT every block but the port and the window holds its hard-reset values (R163, R172). That nRESET low is in
the state, as run state INIT, is the model's choice (log entries 3 and 24). -/
def Obligations.StepKeepsInitAtResetValues : Prop :=
  ∀ s t : State, s.initLaw → step s = .next t → t.initLaw

/-- Records generated equals records written plus records waiting plus lost total (R87). -/
def Obligations.StepKeepsRecordBalance : Prop :=
  ∀ s t : State, s.balanceLaw → step s = .next t → t.balanceLaw

/-- The trip queue holds at most 12 records and any only without a current page (R81); losses are pending only with a
full queue and no page (R85); a current page holds 1 to 14 records (R100). -/
def Obligations.StepKeepsTripQueueLaw : Prop :=
  ∀ s t : State, s.initLaw → s.windowLaw → s.tripQueueLaw → step s = .next t → t.tripQueueLaw

/-- At most six slots are taken, each reads TAKEN, and the chains' lists hold exactly the taken slots (R111, R121); the
slots attached to the read in progress are among those of its chain (R37); in DRAINING every taken slot belongs to that
read (R123), in IDLE none is taken (R121, R124), and outside RUNNING no sweep is outstanding (R116). -/
def Obligations.StepKeepsTakenSetLaw : Prop :=
  ∀ s t : State, s.initLaw → s.windowLaw → s.takenLaw → step s = .next t → t.takenLaw

/-- The warm set stays within the warm limit in RUNNING and empty in IDLE and INIT (R5), with the LRU order (R6), the
due queue (R32), the settle timers (R11) and the read in progress (R3) in step with the chain states. -/
def Obligations.StepKeepsWarmSetLaw : Prop :=
  ∀ s t : State, s.initLaw → s.warmLaw → step s = .next t → t.warmLaw

/-- A defined group's state agrees with its last value and compare pattern, and is UNSET on an unprimed chain (R58,
R61). -/
def Obligations.StepKeepsGroupStateLaw : Prop :=
  ∀ s t : State, s.groupLaw → step s = .next t → t.groupLaw

/-- Fewer chains are pinned than the warm limit in RUNNING and DRAINING, those counted that a deferred SET_CHAIN will pin
(R8, R133). -/
def Obligations.StepKeepsPinLaw : Prop :=
  ∀ s t : State, s.initLaw → s.windowLaw → s.takenLaw → s.pinLaw → step s = .next t → t.pinLaw

/-- Image positions past a chain's length hold 0, debounce counters stay below the debounce depth, an unprimed image is
all 0, and a read has its chain's length (R37, R53, R58). -/
def Obligations.StepKeepsImageLaw : Prop :=
  ∀ s t : State, s.initLaw → s.warmLaw → s.imageLaw → step s = .next t → t.imageLaw
end

