-- ==== Sys2Proof/Laws/State.lean ====
section
/-! SUPPORT. What each named update of the state leaves each field at: one lemma for each field of each update. -/

namespace Sys2Proof.Machine

open Sys2Proof

/-! ## setChain -/

@[simp] theorem State.setChain_run (s : State) (c : ChainNo) (r : ChainRec) : (s.setChain c r).run = s.run := rfl
@[simp] theorem State.setChain_frame (s : State) (c : ChainNo) (r : ChainRec) : (s.setChain c r).frame = s.frame := rfl
@[simp] theorem State.setChain_chains (s : State) (c : ChainNo) (r : ChainRec) : (s.setChain c r).chains = s.chains.set c.val r c.isLt := rfl
@[simp] theorem State.setChain_lru (s : State) (c : ChainNo) (r : ChainRec) : (s.setChain c r).lru = s.lru := rfl
@[simp] theorem State.setChain_due (s : State) (c : ChainNo) (r : ChainRec) : (s.setChain c r).due = s.due := rfl
@[simp] theorem State.setChain_read (s : State) (c : ChainNo) (r : ChainRec) : (s.setChain c r).read = s.read := rfl
@[simp] theorem State.setChain_images (s : State) (c : ChainNo) (r : ChainRec) : (s.setChain c r).images = s.images := rfl
@[simp] theorem State.setChain_groups (s : State) (c : ChainNo) (r : ChainRec) : (s.setChain c r).groups = s.groups := rfl
@[simp] theorem State.setChain_records (s : State) (c : ChainNo) (r : ChainRec) : (s.setChain c r).records = s.records := rfl
@[simp] theorem State.setChain_pages (s : State) (c : ChainNo) (r : ChainRec) : (s.setChain c r).pages = s.pages := rfl
@[simp] theorem State.setChain_requests (s : State) (c : ChainNo) (r : ChainRec) : (s.setChain c r).requests = s.requests := rfl
@[simp] theorem State.setChain_alerts (s : State) (c : ChainNo) (r : ChainRec) : (s.setChain c r).alerts = s.alerts := rfl
@[simp] theorem State.setChain_port (s : State) (c : ChainNo) (r : ChainRec) : (s.setChain c r).port = s.port := rfl
@[simp] theorem State.setChain_window (s : State) (c : ChainNo) (r : ChainRec) : (s.setChain c r).window = s.window := rfl
@[simp] theorem State.setChain_fresh (s : State) (c : ChainNo) (r : ChainRec) : (s.setChain c r).fresh = s.fresh := rfl
@[simp] theorem State.setChain_pending (s : State) (c : ChainNo) (r : ChainRec) : (s.setChain c r).pending = s.pending := rfl
@[simp] theorem State.setChain_image (s : State) (c : ChainNo) (r : ChainRec) (d : ChainNo) : (s.setChain c r).image d = s.image d := rfl
@[simp] theorem State.setChain_group (s : State) (c : ChainNo) (r : ChainRec) (j : GroupNo) : (s.setChain c r).group j = s.group j := rfl

/-! ## modChain -/

@[simp] theorem State.modChain_run (s : State) (c : ChainNo) (f : ChainRec → ChainRec) : (s.modChain c f).run = s.run := rfl
@[simp] theorem State.modChain_frame (s : State) (c : ChainNo) (f : ChainRec → ChainRec) : (s.modChain c f).frame = s.frame := rfl
@[simp] theorem State.modChain_chains (s : State) (c : ChainNo) (f : ChainRec → ChainRec) : (s.modChain c f).chains = s.chains.set c.val (f (s.chain c)) c.isLt := rfl
@[simp] theorem State.modChain_lru (s : State) (c : ChainNo) (f : ChainRec → ChainRec) : (s.modChain c f).lru = s.lru := rfl
@[simp] theorem State.modChain_due (s : State) (c : ChainNo) (f : ChainRec → ChainRec) : (s.modChain c f).due = s.due := rfl
@[simp] theorem State.modChain_read (s : State) (c : ChainNo) (f : ChainRec → ChainRec) : (s.modChain c f).read = s.read := rfl
@[simp] theorem State.modChain_images (s : State) (c : ChainNo) (f : ChainRec → ChainRec) : (s.modChain c f).images = s.images := rfl
@[simp] theorem State.modChain_groups (s : State) (c : ChainNo) (f : ChainRec → ChainRec) : (s.modChain c f).groups = s.groups := rfl
@[simp] theorem State.modChain_records (s : State) (c : ChainNo) (f : ChainRec → ChainRec) : (s.modChain c f).records = s.records := rfl
@[simp] theorem State.modChain_pages (s : State) (c : ChainNo) (f : ChainRec → ChainRec) : (s.modChain c f).pages = s.pages := rfl
@[simp] theorem State.modChain_requests (s : State) (c : ChainNo) (f : ChainRec → ChainRec) : (s.modChain c f).requests = s.requests := rfl
@[simp] theorem State.modChain_alerts (s : State) (c : ChainNo) (f : ChainRec → ChainRec) : (s.modChain c f).alerts = s.alerts := rfl
@[simp] theorem State.modChain_port (s : State) (c : ChainNo) (f : ChainRec → ChainRec) : (s.modChain c f).port = s.port := rfl
@[simp] theorem State.modChain_window (s : State) (c : ChainNo) (f : ChainRec → ChainRec) : (s.modChain c f).window = s.window := rfl
@[simp] theorem State.modChain_fresh (s : State) (c : ChainNo) (f : ChainRec → ChainRec) : (s.modChain c f).fresh = s.fresh := rfl
@[simp] theorem State.modChain_pending (s : State) (c : ChainNo) (f : ChainRec → ChainRec) : (s.modChain c f).pending = s.pending := rfl
@[simp] theorem State.modChain_image (s : State) (c : ChainNo) (f : ChainRec → ChainRec) (d : ChainNo) : (s.modChain c f).image d = s.image d := rfl
@[simp] theorem State.modChain_group (s : State) (c : ChainNo) (f : ChainRec → ChainRec) (j : GroupNo) : (s.modChain c f).group j = s.group j := rfl

/-! ## setImage -/

@[simp] theorem State.setImage_run (s : State) (c : ChainNo) (i : Image) : (s.setImage c i).run = s.run := rfl
@[simp] theorem State.setImage_frame (s : State) (c : ChainNo) (i : Image) : (s.setImage c i).frame = s.frame := rfl
@[simp] theorem State.setImage_chains (s : State) (c : ChainNo) (i : Image) : (s.setImage c i).chains = s.chains := rfl
@[simp] theorem State.setImage_lru (s : State) (c : ChainNo) (i : Image) : (s.setImage c i).lru = s.lru := rfl
@[simp] theorem State.setImage_due (s : State) (c : ChainNo) (i : Image) : (s.setImage c i).due = s.due := rfl
@[simp] theorem State.setImage_read (s : State) (c : ChainNo) (i : Image) : (s.setImage c i).read = s.read := rfl
@[simp] theorem State.setImage_images (s : State) (c : ChainNo) (i : Image) : (s.setImage c i).images = s.images.set c.val i c.isLt := rfl
@[simp] theorem State.setImage_groups (s : State) (c : ChainNo) (i : Image) : (s.setImage c i).groups = s.groups := rfl
@[simp] theorem State.setImage_records (s : State) (c : ChainNo) (i : Image) : (s.setImage c i).records = s.records := rfl
@[simp] theorem State.setImage_pages (s : State) (c : ChainNo) (i : Image) : (s.setImage c i).pages = s.pages := rfl
@[simp] theorem State.setImage_requests (s : State) (c : ChainNo) (i : Image) : (s.setImage c i).requests = s.requests := rfl
@[simp] theorem State.setImage_alerts (s : State) (c : ChainNo) (i : Image) : (s.setImage c i).alerts = s.alerts := rfl
@[simp] theorem State.setImage_port (s : State) (c : ChainNo) (i : Image) : (s.setImage c i).port = s.port := rfl
@[simp] theorem State.setImage_window (s : State) (c : ChainNo) (i : Image) : (s.setImage c i).window = s.window := rfl
@[simp] theorem State.setImage_fresh (s : State) (c : ChainNo) (i : Image) : (s.setImage c i).fresh = s.fresh := rfl
@[simp] theorem State.setImage_pending (s : State) (c : ChainNo) (i : Image) : (s.setImage c i).pending = s.pending := rfl
@[simp] theorem State.setImage_chain (s : State) (c : ChainNo) (i : Image) (d : ChainNo) : (s.setImage c i).chain d = s.chain d := rfl
@[simp] theorem State.setImage_group (s : State) (c : ChainNo) (i : Image) (j : GroupNo) : (s.setImage c i).group j = s.group j := rfl

/-! ## setGroup -/

@[simp] theorem State.setGroup_run (s : State) (g : GroupNo) (r : GroupRec) : (s.setGroup g r).run = s.run := rfl
@[simp] theorem State.setGroup_frame (s : State) (g : GroupNo) (r : GroupRec) : (s.setGroup g r).frame = s.frame := rfl
@[simp] theorem State.setGroup_chains (s : State) (g : GroupNo) (r : GroupRec) : (s.setGroup g r).chains = s.chains := rfl
@[simp] theorem State.setGroup_lru (s : State) (g : GroupNo) (r : GroupRec) : (s.setGroup g r).lru = s.lru := rfl
@[simp] theorem State.setGroup_due (s : State) (g : GroupNo) (r : GroupRec) : (s.setGroup g r).due = s.due := rfl
@[simp] theorem State.setGroup_read (s : State) (g : GroupNo) (r : GroupRec) : (s.setGroup g r).read = s.read := rfl
@[simp] theorem State.setGroup_images (s : State) (g : GroupNo) (r : GroupRec) : (s.setGroup g r).images = s.images := rfl
@[simp] theorem State.setGroup_groups (s : State) (g : GroupNo) (r : GroupRec) : (s.setGroup g r).groups = s.groups.set g.val r g.isLt := rfl
@[simp] theorem State.setGroup_records (s : State) (g : GroupNo) (r : GroupRec) : (s.setGroup g r).records = s.records := rfl
@[simp] theorem State.setGroup_pages (s : State) (g : GroupNo) (r : GroupRec) : (s.setGroup g r).pages = s.pages := rfl
@[simp] theorem State.setGroup_requests (s : State) (g : GroupNo) (r : GroupRec) : (s.setGroup g r).requests = s.requests := rfl
@[simp] theorem State.setGroup_alerts (s : State) (g : GroupNo) (r : GroupRec) : (s.setGroup g r).alerts = s.alerts := rfl
@[simp] theorem State.setGroup_port (s : State) (g : GroupNo) (r : GroupRec) : (s.setGroup g r).port = s.port := rfl
@[simp] theorem State.setGroup_window (s : State) (g : GroupNo) (r : GroupRec) : (s.setGroup g r).window = s.window := rfl
@[simp] theorem State.setGroup_fresh (s : State) (g : GroupNo) (r : GroupRec) : (s.setGroup g r).fresh = s.fresh := rfl
@[simp] theorem State.setGroup_pending (s : State) (g : GroupNo) (r : GroupRec) : (s.setGroup g r).pending = s.pending := rfl
@[simp] theorem State.setGroup_chain (s : State) (g : GroupNo) (r : GroupRec) (d : ChainNo) : (s.setGroup g r).chain d = s.chain d := rfl
@[simp] theorem State.setGroup_image (s : State) (g : GroupNo) (r : GroupRec) (d : ChainNo) : (s.setGroup g r).image d = s.image d := rfl

/-! ## setWindow -/

@[simp] theorem State.setWindow_run (s : State) (m : Memory) : (s.setWindow m).run = s.run := rfl
@[simp] theorem State.setWindow_frame (s : State) (m : Memory) : (s.setWindow m).frame = s.frame := rfl
@[simp] theorem State.setWindow_chains (s : State) (m : Memory) : (s.setWindow m).chains = s.chains := rfl
@[simp] theorem State.setWindow_lru (s : State) (m : Memory) : (s.setWindow m).lru = s.lru := rfl
@[simp] theorem State.setWindow_due (s : State) (m : Memory) : (s.setWindow m).due = s.due := rfl
@[simp] theorem State.setWindow_read (s : State) (m : Memory) : (s.setWindow m).read = s.read := rfl
@[simp] theorem State.setWindow_images (s : State) (m : Memory) : (s.setWindow m).images = s.images := rfl
@[simp] theorem State.setWindow_groups (s : State) (m : Memory) : (s.setWindow m).groups = s.groups := rfl
@[simp] theorem State.setWindow_records (s : State) (m : Memory) : (s.setWindow m).records = s.records := rfl
@[simp] theorem State.setWindow_pages (s : State) (m : Memory) : (s.setWindow m).pages = s.pages := rfl
@[simp] theorem State.setWindow_requests (s : State) (m : Memory) : (s.setWindow m).requests = s.requests := rfl
@[simp] theorem State.setWindow_alerts (s : State) (m : Memory) : (s.setWindow m).alerts = s.alerts := rfl
@[simp] theorem State.setWindow_port (s : State) (m : Memory) : (s.setWindow m).port = s.port := rfl
@[simp] theorem State.setWindow_window (s : State) (m : Memory) : (s.setWindow m).window = m := rfl
@[simp] theorem State.setWindow_fresh (s : State) (m : Memory) : (s.setWindow m).fresh = s.fresh := rfl
@[simp] theorem State.setWindow_pending (s : State) (m : Memory) : (s.setWindow m).pending = s.pending := rfl
@[simp] theorem State.setWindow_chain (s : State) (m : Memory) (d : ChainNo) : (s.setWindow m).chain d = s.chain d := rfl
@[simp] theorem State.setWindow_image (s : State) (m : Memory) (d : ChainNo) : (s.setWindow m).image d = s.image d := rfl
@[simp] theorem State.setWindow_group (s : State) (m : Memory) (j : GroupNo) : (s.setWindow m).group j = s.group j := rfl

/-! ## setRecords -/

@[simp] theorem State.setRecords_run (s : State) (r : RecordUnit) : (s.setRecords r).run = s.run := rfl
@[simp] theorem State.setRecords_frame (s : State) (r : RecordUnit) : (s.setRecords r).frame = s.frame := rfl
@[simp] theorem State.setRecords_chains (s : State) (r : RecordUnit) : (s.setRecords r).chains = s.chains := rfl
@[simp] theorem State.setRecords_lru (s : State) (r : RecordUnit) : (s.setRecords r).lru = s.lru := rfl
@[simp] theorem State.setRecords_due (s : State) (r : RecordUnit) : (s.setRecords r).due = s.due := rfl
@[simp] theorem State.setRecords_read (s : State) (r : RecordUnit) : (s.setRecords r).read = s.read := rfl
@[simp] theorem State.setRecords_images (s : State) (r : RecordUnit) : (s.setRecords r).images = s.images := rfl
@[simp] theorem State.setRecords_groups (s : State) (r : RecordUnit) : (s.setRecords r).groups = s.groups := rfl
@[simp] theorem State.setRecords_records (s : State) (r : RecordUnit) : (s.setRecords r).records = r := rfl
@[simp] theorem State.setRecords_pages (s : State) (r : RecordUnit) : (s.setRecords r).pages = s.pages := rfl
@[simp] theorem State.setRecords_requests (s : State) (r : RecordUnit) : (s.setRecords r).requests = s.requests := rfl
@[simp] theorem State.setRecords_alerts (s : State) (r : RecordUnit) : (s.setRecords r).alerts = s.alerts := rfl
@[simp] theorem State.setRecords_port (s : State) (r : RecordUnit) : (s.setRecords r).port = s.port := rfl
@[simp] theorem State.setRecords_window (s : State) (r : RecordUnit) : (s.setRecords r).window = s.window := rfl
@[simp] theorem State.setRecords_fresh (s : State) (r : RecordUnit) : (s.setRecords r).fresh = s.fresh := rfl
@[simp] theorem State.setRecords_pending (s : State) (r : RecordUnit) : (s.setRecords r).pending = s.pending := rfl
@[simp] theorem State.setRecords_chain (s : State) (r : RecordUnit) (d : ChainNo) : (s.setRecords r).chain d = s.chain d := rfl
@[simp] theorem State.setRecords_image (s : State) (r : RecordUnit) (d : ChainNo) : (s.setRecords r).image d = s.image d := rfl
@[simp] theorem State.setRecords_group (s : State) (r : RecordUnit) (j : GroupNo) : (s.setRecords r).group j = s.group j := rfl

/-! ## setPages -/

@[simp] theorem State.setPages_run (s : State) (p : PageWriter) : (s.setPages p).run = s.run := rfl
@[simp] theorem State.setPages_frame (s : State) (p : PageWriter) : (s.setPages p).frame = s.frame := rfl
@[simp] theorem State.setPages_chains (s : State) (p : PageWriter) : (s.setPages p).chains = s.chains := rfl
@[simp] theorem State.setPages_lru (s : State) (p : PageWriter) : (s.setPages p).lru = s.lru := rfl
@[simp] theorem State.setPages_due (s : State) (p : PageWriter) : (s.setPages p).due = s.due := rfl
@[simp] theorem State.setPages_read (s : State) (p : PageWriter) : (s.setPages p).read = s.read := rfl
@[simp] theorem State.setPages_images (s : State) (p : PageWriter) : (s.setPages p).images = s.images := rfl
@[simp] theorem State.setPages_groups (s : State) (p : PageWriter) : (s.setPages p).groups = s.groups := rfl
@[simp] theorem State.setPages_records (s : State) (p : PageWriter) : (s.setPages p).records = s.records := rfl
@[simp] theorem State.setPages_pages (s : State) (p : PageWriter) : (s.setPages p).pages = p := rfl
@[simp] theorem State.setPages_requests (s : State) (p : PageWriter) : (s.setPages p).requests = s.requests := rfl
@[simp] theorem State.setPages_alerts (s : State) (p : PageWriter) : (s.setPages p).alerts = s.alerts := rfl
@[simp] theorem State.setPages_port (s : State) (p : PageWriter) : (s.setPages p).port = s.port := rfl
@[simp] theorem State.setPages_window (s : State) (p : PageWriter) : (s.setPages p).window = s.window := rfl
@[simp] theorem State.setPages_fresh (s : State) (p : PageWriter) : (s.setPages p).fresh = s.fresh := rfl
@[simp] theorem State.setPages_pending (s : State) (p : PageWriter) : (s.setPages p).pending = s.pending := rfl
@[simp] theorem State.setPages_chain (s : State) (p : PageWriter) (d : ChainNo) : (s.setPages p).chain d = s.chain d := rfl
@[simp] theorem State.setPages_image (s : State) (p : PageWriter) (d : ChainNo) : (s.setPages p).image d = s.image d := rfl
@[simp] theorem State.setPages_group (s : State) (p : PageWriter) (j : GroupNo) : (s.setPages p).group j = s.group j := rfl

/-! ## setFrame -/

@[simp] theorem State.setFrame_run (s : State) (w : FrameWork) : (s.setFrame w).run = s.run := rfl
@[simp] theorem State.setFrame_frame (s : State) (w : FrameWork) : (s.setFrame w).frame = w := rfl
@[simp] theorem State.setFrame_chains (s : State) (w : FrameWork) : (s.setFrame w).chains = s.chains := rfl
@[simp] theorem State.setFrame_lru (s : State) (w : FrameWork) : (s.setFrame w).lru = s.lru := rfl
@[simp] theorem State.setFrame_due (s : State) (w : FrameWork) : (s.setFrame w).due = s.due := rfl
@[simp] theorem State.setFrame_read (s : State) (w : FrameWork) : (s.setFrame w).read = s.read := rfl
@[simp] theorem State.setFrame_images (s : State) (w : FrameWork) : (s.setFrame w).images = s.images := rfl
@[simp] theorem State.setFrame_groups (s : State) (w : FrameWork) : (s.setFrame w).groups = s.groups := rfl
@[simp] theorem State.setFrame_records (s : State) (w : FrameWork) : (s.setFrame w).records = s.records := rfl
@[simp] theorem State.setFrame_pages (s : State) (w : FrameWork) : (s.setFrame w).pages = s.pages := rfl
@[simp] theorem State.setFrame_requests (s : State) (w : FrameWork) : (s.setFrame w).requests = s.requests := rfl
@[simp] theorem State.setFrame_alerts (s : State) (w : FrameWork) : (s.setFrame w).alerts = s.alerts := rfl
@[simp] theorem State.setFrame_port (s : State) (w : FrameWork) : (s.setFrame w).port = s.port := rfl
@[simp] theorem State.setFrame_window (s : State) (w : FrameWork) : (s.setFrame w).window = s.window := rfl
@[simp] theorem State.setFrame_fresh (s : State) (w : FrameWork) : (s.setFrame w).fresh = s.fresh := rfl
@[simp] theorem State.setFrame_pending (s : State) (w : FrameWork) : (s.setFrame w).pending = s.pending := rfl
@[simp] theorem State.setFrame_chain (s : State) (w : FrameWork) (d : ChainNo) : (s.setFrame w).chain d = s.chain d := rfl
@[simp] theorem State.setFrame_image (s : State) (w : FrameWork) (d : ChainNo) : (s.setFrame w).image d = s.image d := rfl
@[simp] theorem State.setFrame_group (s : State) (w : FrameWork) (j : GroupNo) : (s.setFrame w).group j = s.group j := rfl

/-! ## setPort -/

@[simp] theorem State.setPort_run (s : State) (p : Port) : (s.setPort p).run = s.run := rfl
@[simp] theorem State.setPort_frame (s : State) (p : Port) : (s.setPort p).frame = s.frame := rfl
@[simp] theorem State.setPort_chains (s : State) (p : Port) : (s.setPort p).chains = s.chains := rfl
@[simp] theorem State.setPort_lru (s : State) (p : Port) : (s.setPort p).lru = s.lru := rfl
@[simp] theorem State.setPort_due (s : State) (p : Port) : (s.setPort p).due = s.due := rfl
@[simp] theorem State.setPort_read (s : State) (p : Port) : (s.setPort p).read = s.read := rfl
@[simp] theorem State.setPort_images (s : State) (p : Port) : (s.setPort p).images = s.images := rfl
@[simp] theorem State.setPort_groups (s : State) (p : Port) : (s.setPort p).groups = s.groups := rfl
@[simp] theorem State.setPort_records (s : State) (p : Port) : (s.setPort p).records = s.records := rfl
@[simp] theorem State.setPort_pages (s : State) (p : Port) : (s.setPort p).pages = s.pages := rfl
@[simp] theorem State.setPort_requests (s : State) (p : Port) : (s.setPort p).requests = s.requests := rfl
@[simp] theorem State.setPort_alerts (s : State) (p : Port) : (s.setPort p).alerts = s.alerts := rfl
@[simp] theorem State.setPort_port (s : State) (p : Port) : (s.setPort p).port = p := rfl
@[simp] theorem State.setPort_window (s : State) (p : Port) : (s.setPort p).window = s.window := rfl
@[simp] theorem State.setPort_fresh (s : State) (p : Port) : (s.setPort p).fresh = s.fresh := rfl
@[simp] theorem State.setPort_pending (s : State) (p : Port) : (s.setPort p).pending = s.pending := rfl
@[simp] theorem State.setPort_chain (s : State) (p : Port) (d : ChainNo) : (s.setPort p).chain d = s.chain d := rfl
@[simp] theorem State.setPort_image (s : State) (p : Port) (d : ChainNo) : (s.setPort p).image d = s.image d := rfl
@[simp] theorem State.setPort_group (s : State) (p : Port) (j : GroupNo) : (s.setPort p).group j = s.group j := rfl

/-! ## toPhase -/

@[simp] theorem State.toPhase_run (s : State) (p : PortPhase) : (s.toPhase p).run = s.run := rfl
@[simp] theorem State.toPhase_frame (s : State) (p : PortPhase) : (s.toPhase p).frame = s.frame := rfl
@[simp] theorem State.toPhase_chains (s : State) (p : PortPhase) : (s.toPhase p).chains = s.chains := rfl
@[simp] theorem State.toPhase_lru (s : State) (p : PortPhase) : (s.toPhase p).lru = s.lru := rfl
@[simp] theorem State.toPhase_due (s : State) (p : PortPhase) : (s.toPhase p).due = s.due := rfl
@[simp] theorem State.toPhase_read (s : State) (p : PortPhase) : (s.toPhase p).read = s.read := rfl
@[simp] theorem State.toPhase_images (s : State) (p : PortPhase) : (s.toPhase p).images = s.images := rfl
@[simp] theorem State.toPhase_groups (s : State) (p : PortPhase) : (s.toPhase p).groups = s.groups := rfl
@[simp] theorem State.toPhase_records (s : State) (p : PortPhase) : (s.toPhase p).records = s.records := rfl
@[simp] theorem State.toPhase_pages (s : State) (p : PortPhase) : (s.toPhase p).pages = s.pages := rfl
@[simp] theorem State.toPhase_requests (s : State) (p : PortPhase) : (s.toPhase p).requests = s.requests := rfl
@[simp] theorem State.toPhase_alerts (s : State) (p : PortPhase) : (s.toPhase p).alerts = s.alerts := rfl
@[simp] theorem State.toPhase_port (s : State) (p : PortPhase) : (s.toPhase p).port = { s.port with phase := p, shift := [] } := rfl
@[simp] theorem State.toPhase_window (s : State) (p : PortPhase) : (s.toPhase p).window = s.window := rfl
@[simp] theorem State.toPhase_fresh (s : State) (p : PortPhase) : (s.toPhase p).fresh = s.fresh := rfl
@[simp] theorem State.toPhase_pending (s : State) (p : PortPhase) : (s.toPhase p).pending = s.pending := rfl
@[simp] theorem State.toPhase_chain (s : State) (p : PortPhase) (d : ChainNo) : (s.toPhase p).chain d = s.chain d := rfl
@[simp] theorem State.toPhase_image (s : State) (p : PortPhase) (d : ChainNo) : (s.toPhase p).image d = s.image d := rfl
@[simp] theorem State.toPhase_group (s : State) (p : PortPhase) (j : GroupNo) : (s.toPhase p).group j = s.group j := rfl

/-! ## raise -/

@[simp] theorem State.raise_run (s : State) (f : Flag) : (s.raise f).run = s.run := rfl
@[simp] theorem State.raise_frame (s : State) (f : Flag) : (s.raise f).frame = s.frame := rfl
@[simp] theorem State.raise_chains (s : State) (f : Flag) : (s.raise f).chains = s.chains := rfl
@[simp] theorem State.raise_lru (s : State) (f : Flag) : (s.raise f).lru = s.lru := rfl
@[simp] theorem State.raise_due (s : State) (f : Flag) : (s.raise f).due = s.due := rfl
@[simp] theorem State.raise_read (s : State) (f : Flag) : (s.raise f).read = s.read := rfl
@[simp] theorem State.raise_images (s : State) (f : Flag) : (s.raise f).images = s.images := rfl
@[simp] theorem State.raise_groups (s : State) (f : Flag) : (s.raise f).groups = s.groups := rfl
@[simp] theorem State.raise_records (s : State) (f : Flag) : (s.raise f).records = s.records := rfl
@[simp] theorem State.raise_pages (s : State) (f : Flag) : (s.raise f).pages = s.pages := rfl
@[simp] theorem State.raise_requests (s : State) (f : Flag) : (s.raise f).requests = s.requests := rfl
@[simp] theorem State.raise_alerts (s : State) (f : Flag) : (s.raise f).alerts = { s.alerts with flags := s.alerts.flags ||| f.mask } := rfl
@[simp] theorem State.raise_port (s : State) (f : Flag) : (s.raise f).port = s.port := rfl
@[simp] theorem State.raise_window (s : State) (f : Flag) : (s.raise f).window = s.window := rfl
@[simp] theorem State.raise_fresh (s : State) (f : Flag) : (s.raise f).fresh = s.fresh := rfl
@[simp] theorem State.raise_pending (s : State) (f : Flag) : (s.raise f).pending = s.pending := rfl
@[simp] theorem State.raise_chain (s : State) (f : Flag) (d : ChainNo) : (s.raise f).chain d = s.chain d := rfl
@[simp] theorem State.raise_image (s : State) (f : Flag) (d : ChainNo) : (s.raise f).image d = s.image d := rfl
@[simp] theorem State.raise_group (s : State) (f : Flag) (j : GroupNo) : (s.raise f).group j = s.group j := rfl

/-! ## clearFlags -/

@[simp] theorem State.clearFlags_run (s : State) (v : Half) : (s.clearFlags v).run = s.run := rfl
@[simp] theorem State.clearFlags_frame (s : State) (v : Half) : (s.clearFlags v).frame = s.frame := rfl
@[simp] theorem State.clearFlags_chains (s : State) (v : Half) : (s.clearFlags v).chains = s.chains := rfl
@[simp] theorem State.clearFlags_lru (s : State) (v : Half) : (s.clearFlags v).lru = s.lru := rfl
@[simp] theorem State.clearFlags_due (s : State) (v : Half) : (s.clearFlags v).due = s.due := rfl
@[simp] theorem State.clearFlags_read (s : State) (v : Half) : (s.clearFlags v).read = s.read := rfl
@[simp] theorem State.clearFlags_images (s : State) (v : Half) : (s.clearFlags v).images = s.images := rfl
@[simp] theorem State.clearFlags_groups (s : State) (v : Half) : (s.clearFlags v).groups = s.groups := rfl
@[simp] theorem State.clearFlags_records (s : State) (v : Half) : (s.clearFlags v).records = s.records := rfl
@[simp] theorem State.clearFlags_pages (s : State) (v : Half) : (s.clearFlags v).pages = s.pages := rfl
@[simp] theorem State.clearFlags_requests (s : State) (v : Half) : (s.clearFlags v).requests = s.requests := rfl
@[simp] theorem State.clearFlags_alerts (s : State) (v : Half) : (s.clearFlags v).alerts = { s.alerts with flags := s.alerts.flags &&& ~~~(v.setWidth 7) } := rfl
@[simp] theorem State.clearFlags_port (s : State) (v : Half) : (s.clearFlags v).port = s.port := rfl
@[simp] theorem State.clearFlags_window (s : State) (v : Half) : (s.clearFlags v).window = s.window := rfl
@[simp] theorem State.clearFlags_fresh (s : State) (v : Half) : (s.clearFlags v).fresh = s.fresh := rfl
@[simp] theorem State.clearFlags_pending (s : State) (v : Half) : (s.clearFlags v).pending = s.pending := rfl
@[simp] theorem State.clearFlags_chain (s : State) (v : Half) (d : ChainNo) : (s.clearFlags v).chain d = s.chain d := rfl
@[simp] theorem State.clearFlags_image (s : State) (v : Half) (d : ChainNo) : (s.clearFlags v).image d = s.image d := rfl
@[simp] theorem State.clearFlags_group (s : State) (v : Half) (j : GroupNo) : (s.clearFlags v).group j = s.group j := rfl

/-! ## setEnables -/

@[simp] theorem State.setEnables_run (s : State) (v : Half) : (s.setEnables v).run = s.run := rfl
@[simp] theorem State.setEnables_frame (s : State) (v : Half) : (s.setEnables v).frame = s.frame := rfl
@[simp] theorem State.setEnables_chains (s : State) (v : Half) : (s.setEnables v).chains = s.chains := rfl
@[simp] theorem State.setEnables_lru (s : State) (v : Half) : (s.setEnables v).lru = s.lru := rfl
@[simp] theorem State.setEnables_due (s : State) (v : Half) : (s.setEnables v).due = s.due := rfl
@[simp] theorem State.setEnables_read (s : State) (v : Half) : (s.setEnables v).read = s.read := rfl
@[simp] theorem State.setEnables_images (s : State) (v : Half) : (s.setEnables v).images = s.images := rfl
@[simp] theorem State.setEnables_groups (s : State) (v : Half) : (s.setEnables v).groups = s.groups := rfl
@[simp] theorem State.setEnables_records (s : State) (v : Half) : (s.setEnables v).records = s.records := rfl
@[simp] theorem State.setEnables_pages (s : State) (v : Half) : (s.setEnables v).pages = s.pages := rfl
@[simp] theorem State.setEnables_requests (s : State) (v : Half) : (s.setEnables v).requests = s.requests := rfl
@[simp] theorem State.setEnables_alerts (s : State) (v : Half) : (s.setEnables v).alerts = { s.alerts with enables := v.setWidth 7, level := v.extractLsb' 8 2 } := rfl
@[simp] theorem State.setEnables_port (s : State) (v : Half) : (s.setEnables v).port = s.port := rfl
@[simp] theorem State.setEnables_window (s : State) (v : Half) : (s.setEnables v).window = s.window := rfl
@[simp] theorem State.setEnables_fresh (s : State) (v : Half) : (s.setEnables v).fresh = s.fresh := rfl
@[simp] theorem State.setEnables_pending (s : State) (v : Half) : (s.setEnables v).pending = s.pending := rfl
@[simp] theorem State.setEnables_chain (s : State) (v : Half) (d : ChainNo) : (s.setEnables v).chain d = s.chain d := rfl
@[simp] theorem State.setEnables_image (s : State) (v : Half) (d : ChainNo) : (s.setEnables v).image d = s.image d := rfl
@[simp] theorem State.setEnables_group (s : State) (v : Half) (j : GroupNo) : (s.setEnables v).group j = s.group j := rfl

/-! ## leaveDue -/

@[simp] theorem State.leaveDue_run (s : State) (c : ChainNo) : (s.leaveDue c).run = s.run := rfl
@[simp] theorem State.leaveDue_frame (s : State) (c : ChainNo) : (s.leaveDue c).frame = s.frame := rfl
@[simp] theorem State.leaveDue_chains (s : State) (c : ChainNo) : (s.leaveDue c).chains = s.chains := rfl
@[simp] theorem State.leaveDue_lru (s : State) (c : ChainNo) : (s.leaveDue c).lru = s.lru := rfl
@[simp] theorem State.leaveDue_due (s : State) (c : ChainNo) : (s.leaveDue c).due = s.due.filter (· != c) := rfl
@[simp] theorem State.leaveDue_read (s : State) (c : ChainNo) : (s.leaveDue c).read = s.read := rfl
@[simp] theorem State.leaveDue_images (s : State) (c : ChainNo) : (s.leaveDue c).images = s.images := rfl
@[simp] theorem State.leaveDue_groups (s : State) (c : ChainNo) : (s.leaveDue c).groups = s.groups := rfl
@[simp] theorem State.leaveDue_records (s : State) (c : ChainNo) : (s.leaveDue c).records = s.records := rfl
@[simp] theorem State.leaveDue_pages (s : State) (c : ChainNo) : (s.leaveDue c).pages = s.pages := rfl
@[simp] theorem State.leaveDue_requests (s : State) (c : ChainNo) : (s.leaveDue c).requests = s.requests := rfl
@[simp] theorem State.leaveDue_alerts (s : State) (c : ChainNo) : (s.leaveDue c).alerts = s.alerts := rfl
@[simp] theorem State.leaveDue_port (s : State) (c : ChainNo) : (s.leaveDue c).port = s.port := rfl
@[simp] theorem State.leaveDue_window (s : State) (c : ChainNo) : (s.leaveDue c).window = s.window := rfl
@[simp] theorem State.leaveDue_fresh (s : State) (c : ChainNo) : (s.leaveDue c).fresh = s.fresh := rfl
@[simp] theorem State.leaveDue_pending (s : State) (c : ChainNo) : (s.leaveDue c).pending = s.pending := rfl
@[simp] theorem State.leaveDue_chain (s : State) (c : ChainNo) (d : ChainNo) : (s.leaveDue c).chain d = s.chain d := rfl
@[simp] theorem State.leaveDue_image (s : State) (c : ChainNo) (d : ChainNo) : (s.leaveDue c).image d = s.image d := rfl
@[simp] theorem State.leaveDue_group (s : State) (c : ChainNo) (j : GroupNo) : (s.leaveDue c).group j = s.group j := rfl

/-! ## cancelExpiry -/

@[simp] theorem State.cancelExpiry_run (s : State) (c : ChainNo) : (s.cancelExpiry c).run = s.run := rfl
@[simp] theorem State.cancelExpiry_frame (s : State) (c : ChainNo) : (s.cancelExpiry c).frame = { s.frame with expiries := s.frame.expiries.filter (· != c) } := rfl
@[simp] theorem State.cancelExpiry_chains (s : State) (c : ChainNo) : (s.cancelExpiry c).chains = s.chains := rfl
@[simp] theorem State.cancelExpiry_lru (s : State) (c : ChainNo) : (s.cancelExpiry c).lru = s.lru := rfl
@[simp] theorem State.cancelExpiry_due (s : State) (c : ChainNo) : (s.cancelExpiry c).due = s.due := rfl
@[simp] theorem State.cancelExpiry_read (s : State) (c : ChainNo) : (s.cancelExpiry c).read = s.read := rfl
@[simp] theorem State.cancelExpiry_images (s : State) (c : ChainNo) : (s.cancelExpiry c).images = s.images := rfl
@[simp] theorem State.cancelExpiry_groups (s : State) (c : ChainNo) : (s.cancelExpiry c).groups = s.groups := rfl
@[simp] theorem State.cancelExpiry_records (s : State) (c : ChainNo) : (s.cancelExpiry c).records = s.records := rfl
@[simp] theorem State.cancelExpiry_pages (s : State) (c : ChainNo) : (s.cancelExpiry c).pages = s.pages := rfl
@[simp] theorem State.cancelExpiry_requests (s : State) (c : ChainNo) : (s.cancelExpiry c).requests = s.requests := rfl
@[simp] theorem State.cancelExpiry_alerts (s : State) (c : ChainNo) : (s.cancelExpiry c).alerts = s.alerts := rfl
@[simp] theorem State.cancelExpiry_port (s : State) (c : ChainNo) : (s.cancelExpiry c).port = s.port := rfl
@[simp] theorem State.cancelExpiry_window (s : State) (c : ChainNo) : (s.cancelExpiry c).window = s.window := rfl
@[simp] theorem State.cancelExpiry_fresh (s : State) (c : ChainNo) : (s.cancelExpiry c).fresh = s.fresh := rfl
@[simp] theorem State.cancelExpiry_pending (s : State) (c : ChainNo) : (s.cancelExpiry c).pending = s.pending := rfl
@[simp] theorem State.cancelExpiry_chain (s : State) (c : ChainNo) (d : ChainNo) : (s.cancelExpiry c).chain d = s.chain d := rfl
@[simp] theorem State.cancelExpiry_image (s : State) (c : ChainNo) (d : ChainNo) : (s.cancelExpiry c).image d = s.image d := rfl
@[simp] theorem State.cancelExpiry_group (s : State) (c : ChainNo) (j : GroupNo) : (s.cancelExpiry c).group j = s.group j := rfl

/-! ## chill -/

@[simp] theorem State.chill_run (s : State) (c : ChainNo) (cs : ChainState) : (s.chill c cs).run = s.run := rfl
@[simp] theorem State.chill_frame (s : State) (c : ChainNo) (cs : ChainState) : (s.chill c cs).frame = s.frame := rfl
@[simp] theorem State.chill_lru (s : State) (c : ChainNo) (cs : ChainState) : (s.chill c cs).lru = s.lru.filter (· != c) := rfl
@[simp] theorem State.chill_due (s : State) (c : ChainNo) (cs : ChainState) : (s.chill c cs).due = s.due := rfl
@[simp] theorem State.chill_read (s : State) (c : ChainNo) (cs : ChainState) : (s.chill c cs).read = s.read := rfl
@[simp] theorem State.chill_images (s : State) (c : ChainNo) (cs : ChainState) : (s.chill c cs).images = s.images := rfl
@[simp] theorem State.chill_groups (s : State) (c : ChainNo) (cs : ChainState) : (s.chill c cs).groups = s.groups := rfl
@[simp] theorem State.chill_records (s : State) (c : ChainNo) (cs : ChainState) : (s.chill c cs).records = s.records := rfl
@[simp] theorem State.chill_pages (s : State) (c : ChainNo) (cs : ChainState) : (s.chill c cs).pages = s.pages := rfl
@[simp] theorem State.chill_requests (s : State) (c : ChainNo) (cs : ChainState) : (s.chill c cs).requests = s.requests := rfl
@[simp] theorem State.chill_alerts (s : State) (c : ChainNo) (cs : ChainState) : (s.chill c cs).alerts = s.alerts := rfl
@[simp] theorem State.chill_port (s : State) (c : ChainNo) (cs : ChainState) : (s.chill c cs).port = s.port := rfl
@[simp] theorem State.chill_window (s : State) (c : ChainNo) (cs : ChainState) : (s.chill c cs).window = s.window := rfl
@[simp] theorem State.chill_fresh (s : State) (c : ChainNo) (cs : ChainState) : (s.chill c cs).fresh = s.fresh := rfl
@[simp] theorem State.chill_pending (s : State) (c : ChainNo) (cs : ChainState) : (s.chill c cs).pending = s.pending := rfl
@[simp] theorem State.chill_image (s : State) (c : ChainNo) (cs : ChainState) (d : ChainNo) : (s.chill c cs).image d = s.image d := rfl
@[simp] theorem State.chill_group (s : State) (c : ChainNo) (cs : ChainState) (j : GroupNo) : (s.chill c cs).group j = s.group j := rfl

/-! ## excite -/

@[simp] theorem State.excite_run (s : State) (c : ChainNo) : (s.excite c).run = s.run := rfl
@[simp] theorem State.excite_frame (s : State) (c : ChainNo) : (s.excite c).frame = s.frame := rfl
@[simp] theorem State.excite_lru (s : State) (c : ChainNo) : (s.excite c).lru = s.lru := rfl
@[simp] theorem State.excite_due (s : State) (c : ChainNo) : (s.excite c).due = s.due := rfl
@[simp] theorem State.excite_read (s : State) (c : ChainNo) : (s.excite c).read = s.read := rfl
@[simp] theorem State.excite_images (s : State) (c : ChainNo) : (s.excite c).images = s.images := rfl
@[simp] theorem State.excite_groups (s : State) (c : ChainNo) : (s.excite c).groups = s.groups := rfl
@[simp] theorem State.excite_records (s : State) (c : ChainNo) : (s.excite c).records = s.records := rfl
@[simp] theorem State.excite_pages (s : State) (c : ChainNo) : (s.excite c).pages = s.pages := rfl
@[simp] theorem State.excite_requests (s : State) (c : ChainNo) : (s.excite c).requests = s.requests := rfl
@[simp] theorem State.excite_alerts (s : State) (c : ChainNo) : (s.excite c).alerts = s.alerts := rfl
@[simp] theorem State.excite_port (s : State) (c : ChainNo) : (s.excite c).port = s.port := rfl
@[simp] theorem State.excite_window (s : State) (c : ChainNo) : (s.excite c).window = s.window := rfl
@[simp] theorem State.excite_fresh (s : State) (c : ChainNo) : (s.excite c).fresh = s.fresh := rfl
@[simp] theorem State.excite_pending (s : State) (c : ChainNo) : (s.excite c).pending = s.pending := rfl
@[simp] theorem State.excite_image (s : State) (c : ChainNo) (d : ChainNo) : (s.excite c).image d = s.image d := rfl
@[simp] theorem State.excite_group (s : State) (c : ChainNo) (j : GroupNo) : (s.excite c).group j = s.group j := rfl

/-! ## unprime -/

@[simp] theorem State.unprime_run (s : State) (c : ChainNo) : (s.unprime c).run = s.run := rfl
@[simp] theorem State.unprime_frame (s : State) (c : ChainNo) : (s.unprime c).frame = s.frame := rfl
@[simp] theorem State.unprime_chains (s : State) (c : ChainNo) : (s.unprime c).chains = s.chains := rfl
@[simp] theorem State.unprime_lru (s : State) (c : ChainNo) : (s.unprime c).lru = s.lru := rfl
@[simp] theorem State.unprime_due (s : State) (c : ChainNo) : (s.unprime c).due = s.due := rfl
@[simp] theorem State.unprime_read (s : State) (c : ChainNo) : (s.unprime c).read = s.read := rfl
@[simp] theorem State.unprime_images (s : State) (c : ChainNo) : (s.unprime c).images = s.images.set c.val Image.reset c.isLt := rfl
@[simp] theorem State.unprime_records (s : State) (c : ChainNo) : (s.unprime c).records = s.records := rfl
@[simp] theorem State.unprime_pages (s : State) (c : ChainNo) : (s.unprime c).pages = s.pages := rfl
@[simp] theorem State.unprime_requests (s : State) (c : ChainNo) : (s.unprime c).requests = s.requests := rfl
@[simp] theorem State.unprime_alerts (s : State) (c : ChainNo) : (s.unprime c).alerts = s.alerts := rfl
@[simp] theorem State.unprime_port (s : State) (c : ChainNo) : (s.unprime c).port = s.port := rfl
@[simp] theorem State.unprime_window (s : State) (c : ChainNo) : (s.unprime c).window = s.window := rfl
@[simp] theorem State.unprime_fresh (s : State) (c : ChainNo) : (s.unprime c).fresh = s.fresh := rfl
@[simp] theorem State.unprime_pending (s : State) (c : ChainNo) : (s.unprime c).pending = s.pending := rfl
@[simp] theorem State.unprime_chain (s : State) (c : ChainNo) (d : ChainNo) : (s.unprime c).chain d = s.chain d := rfl

/-! ## countLate -/

@[simp] theorem State.countLate_run (s : State) (c : ChainNo) : (s.countLate c).run = s.run := rfl
@[simp] theorem State.countLate_frame (s : State) (c : ChainNo) : (s.countLate c).frame = s.frame := rfl
@[simp] theorem State.countLate_lru (s : State) (c : ChainNo) : (s.countLate c).lru = s.lru := rfl
@[simp] theorem State.countLate_due (s : State) (c : ChainNo) : (s.countLate c).due = s.due := rfl
@[simp] theorem State.countLate_read (s : State) (c : ChainNo) : (s.countLate c).read = s.read := rfl
@[simp] theorem State.countLate_images (s : State) (c : ChainNo) : (s.countLate c).images = s.images := rfl
@[simp] theorem State.countLate_groups (s : State) (c : ChainNo) : (s.countLate c).groups = s.groups := rfl
@[simp] theorem State.countLate_records (s : State) (c : ChainNo) : (s.countLate c).records = s.records := rfl
@[simp] theorem State.countLate_pages (s : State) (c : ChainNo) : (s.countLate c).pages = s.pages := rfl
@[simp] theorem State.countLate_requests (s : State) (c : ChainNo) : (s.countLate c).requests = s.requests := rfl
@[simp] theorem State.countLate_alerts (s : State) (c : ChainNo) : (s.countLate c).alerts = s.alerts := rfl
@[simp] theorem State.countLate_port (s : State) (c : ChainNo) : (s.countLate c).port = s.port := rfl
@[simp] theorem State.countLate_window (s : State) (c : ChainNo) : (s.countLate c).window = s.window := rfl
@[simp] theorem State.countLate_fresh (s : State) (c : ChainNo) : (s.countLate c).fresh = s.fresh := rfl
@[simp] theorem State.countLate_pending (s : State) (c : ChainNo) : (s.countLate c).pending = s.pending := rfl
@[simp] theorem State.countLate_image (s : State) (c : ChainNo) (d : ChainNo) : (s.countLate c).image d = s.image d := rfl
@[simp] theorem State.countLate_group (s : State) (c : ChainNo) (j : GroupNo) : (s.countLate c).group j = s.group j := rfl

/-! ## appendRecord -/

@[simp] theorem State.appendRecord_run (s : State) (r : Record) : (s.appendRecord r).run = s.run := rfl
@[simp] theorem State.appendRecord_frame (s : State) (r : Record) : (s.appendRecord r).frame = s.frame := rfl
@[simp] theorem State.appendRecord_chains (s : State) (r : Record) : (s.appendRecord r).chains = s.chains := rfl
@[simp] theorem State.appendRecord_lru (s : State) (r : Record) : (s.appendRecord r).lru = s.lru := rfl
@[simp] theorem State.appendRecord_due (s : State) (r : Record) : (s.appendRecord r).due = s.due := rfl
@[simp] theorem State.appendRecord_read (s : State) (r : Record) : (s.appendRecord r).read = s.read := rfl
@[simp] theorem State.appendRecord_images (s : State) (r : Record) : (s.appendRecord r).images = s.images := rfl
@[simp] theorem State.appendRecord_groups (s : State) (r : Record) : (s.appendRecord r).groups = s.groups := rfl
@[simp] theorem State.appendRecord_records (s : State) (r : Record) : (s.appendRecord r).records = { s.records with queue := s.records.queue ++ [{ r with seq := s.records.seq }], seq := s.records.seq + 1 } := rfl
@[simp] theorem State.appendRecord_pages (s : State) (r : Record) : (s.appendRecord r).pages = s.pages := rfl
@[simp] theorem State.appendRecord_requests (s : State) (r : Record) : (s.appendRecord r).requests = s.requests := rfl
@[simp] theorem State.appendRecord_alerts (s : State) (r : Record) : (s.appendRecord r).alerts = s.alerts := rfl
@[simp] theorem State.appendRecord_port (s : State) (r : Record) : (s.appendRecord r).port = s.port := rfl
@[simp] theorem State.appendRecord_window (s : State) (r : Record) : (s.appendRecord r).window = s.window := rfl
@[simp] theorem State.appendRecord_fresh (s : State) (r : Record) : (s.appendRecord r).fresh = s.fresh := rfl
@[simp] theorem State.appendRecord_pending (s : State) (r : Record) : (s.appendRecord r).pending = s.pending := rfl
@[simp] theorem State.appendRecord_chain (s : State) (r : Record) (d : ChainNo) : (s.appendRecord r).chain d = s.chain d := rfl
@[simp] theorem State.appendRecord_image (s : State) (r : Record) (d : ChainNo) : (s.appendRecord r).image d = s.image d := rfl
@[simp] theorem State.appendRecord_group (s : State) (r : Record) (j : GroupNo) : (s.appendRecord r).group j = s.group j := rfl

/-! ## openPage -/

@[simp] theorem State.openPage_run (s : State) (p : PageNo) : (s.openPage p).run = s.run := rfl
@[simp] theorem State.openPage_frame (s : State) (p : PageNo) : (s.openPage p).frame = s.frame := rfl
@[simp] theorem State.openPage_chains (s : State) (p : PageNo) : (s.openPage p).chains = s.chains := rfl
@[simp] theorem State.openPage_lru (s : State) (p : PageNo) : (s.openPage p).lru = s.lru := rfl
@[simp] theorem State.openPage_due (s : State) (p : PageNo) : (s.openPage p).due = s.due := rfl
@[simp] theorem State.openPage_read (s : State) (p : PageNo) : (s.openPage p).read = s.read := rfl
@[simp] theorem State.openPage_images (s : State) (p : PageNo) : (s.openPage p).images = s.images := rfl
@[simp] theorem State.openPage_groups (s : State) (p : PageNo) : (s.openPage p).groups = s.groups := rfl
@[simp] theorem State.openPage_records (s : State) (p : PageNo) : (s.openPage p).records = s.records := rfl
@[simp] theorem State.openPage_pages (s : State) (p : PageNo) : (s.openPage p).pages = { s.pages with current := some p, cursor := p, nextSeq := s.pages.nextSeq + 1, sealTimer := 0 } := rfl
@[simp] theorem State.openPage_requests (s : State) (p : PageNo) : (s.openPage p).requests = s.requests := rfl
@[simp] theorem State.openPage_alerts (s : State) (p : PageNo) : (s.openPage p).alerts = s.alerts := rfl
@[simp] theorem State.openPage_port (s : State) (p : PageNo) : (s.openPage p).port = s.port := rfl
@[simp] theorem State.openPage_fresh (s : State) (p : PageNo) : (s.openPage p).fresh = s.fresh := rfl
@[simp] theorem State.openPage_pending (s : State) (p : PageNo) : (s.openPage p).pending = s.pending := rfl
@[simp] theorem State.openPage_chain (s : State) (p : PageNo) (d : ChainNo) : (s.openPage p).chain d = s.chain d := rfl
@[simp] theorem State.openPage_image (s : State) (p : PageNo) (d : ChainNo) : (s.openPage p).image d = s.image d := rfl
@[simp] theorem State.openPage_group (s : State) (p : PageNo) (j : GroupNo) : (s.openPage p).group j = s.group j := rfl

/-! ## deferOn -/

@[simp] theorem State.deferOn_run (s : State) (c : ChainNo) (k : SlotNo) : (s.deferOn c k).run = s.run := rfl
@[simp] theorem State.deferOn_frame (s : State) (c : ChainNo) (k : SlotNo) : (s.deferOn c k).frame = s.frame := rfl
@[simp] theorem State.deferOn_lru (s : State) (c : ChainNo) (k : SlotNo) : (s.deferOn c k).lru = s.lru := rfl
@[simp] theorem State.deferOn_due (s : State) (c : ChainNo) (k : SlotNo) : (s.deferOn c k).due = s.due := rfl
@[simp] theorem State.deferOn_read (s : State) (c : ChainNo) (k : SlotNo) : (s.deferOn c k).read = s.read := rfl
@[simp] theorem State.deferOn_images (s : State) (c : ChainNo) (k : SlotNo) : (s.deferOn c k).images = s.images := rfl
@[simp] theorem State.deferOn_groups (s : State) (c : ChainNo) (k : SlotNo) : (s.deferOn c k).groups = s.groups := rfl
@[simp] theorem State.deferOn_records (s : State) (c : ChainNo) (k : SlotNo) : (s.deferOn c k).records = s.records := rfl
@[simp] theorem State.deferOn_pages (s : State) (c : ChainNo) (k : SlotNo) : (s.deferOn c k).pages = s.pages := rfl
@[simp] theorem State.deferOn_requests (s : State) (c : ChainNo) (k : SlotNo) : (s.deferOn c k).requests = s.requests := rfl
@[simp] theorem State.deferOn_alerts (s : State) (c : ChainNo) (k : SlotNo) : (s.deferOn c k).alerts = s.alerts := rfl
@[simp] theorem State.deferOn_port (s : State) (c : ChainNo) (k : SlotNo) : (s.deferOn c k).port = s.port := rfl
@[simp] theorem State.deferOn_window (s : State) (c : ChainNo) (k : SlotNo) : (s.deferOn c k).window = s.window := rfl
@[simp] theorem State.deferOn_fresh (s : State) (c : ChainNo) (k : SlotNo) : (s.deferOn c k).fresh = s.fresh := rfl
@[simp] theorem State.deferOn_pending (s : State) (c : ChainNo) (k : SlotNo) : (s.deferOn c k).pending = s.pending := rfl
@[simp] theorem State.deferOn_image (s : State) (c : ChainNo) (k : SlotNo) (d : ChainNo) : (s.deferOn c k).image d = s.image d := rfl
@[simp] theorem State.deferOn_group (s : State) (c : ChainNo) (k : SlotNo) (j : GroupNo) : (s.deferOn c k).group j = s.group j := rfl

/-! ## beginTake -/

@[simp] theorem State.beginTake_run (s : State) (k : SlotNo) : (s.beginTake k).run = s.run := rfl
@[simp] theorem State.beginTake_frame (s : State) (k : SlotNo) : (s.beginTake k).frame = s.frame := rfl
@[simp] theorem State.beginTake_chains (s : State) (k : SlotNo) : (s.beginTake k).chains = s.chains := rfl
@[simp] theorem State.beginTake_lru (s : State) (k : SlotNo) : (s.beginTake k).lru = s.lru := rfl
@[simp] theorem State.beginTake_due (s : State) (k : SlotNo) : (s.beginTake k).due = s.due := rfl
@[simp] theorem State.beginTake_read (s : State) (k : SlotNo) : (s.beginTake k).read = s.read := rfl
@[simp] theorem State.beginTake_images (s : State) (k : SlotNo) : (s.beginTake k).images = s.images := rfl
@[simp] theorem State.beginTake_groups (s : State) (k : SlotNo) : (s.beginTake k).groups = s.groups := rfl
@[simp] theorem State.beginTake_records (s : State) (k : SlotNo) : (s.beginTake k).records = s.records := rfl
@[simp] theorem State.beginTake_pages (s : State) (k : SlotNo) : (s.beginTake k).pages = s.pages := rfl
@[simp] theorem State.beginTake_requests (s : State) (k : SlotNo) : (s.beginTake k).requests = { taken := s.requests.taken ++ [{ slot := k, request := s.readRequest k }], cursor := k } := rfl
@[simp] theorem State.beginTake_alerts (s : State) (k : SlotNo) : (s.beginTake k).alerts = s.alerts := rfl
@[simp] theorem State.beginTake_port (s : State) (k : SlotNo) : (s.beginTake k).port = s.port := rfl
@[simp] theorem State.beginTake_window (s : State) (k : SlotNo) : (s.beginTake k).window = s.window.write (slotBase k) slotTaken := rfl
@[simp] theorem State.beginTake_fresh (s : State) (k : SlotNo) : (s.beginTake k).fresh = s.fresh := rfl
@[simp] theorem State.beginTake_pending (s : State) (k : SlotNo) : (s.beginTake k).pending = s.pending := rfl
@[simp] theorem State.beginTake_chain (s : State) (k : SlotNo) (d : ChainNo) : (s.beginTake k).chain d = s.chain d := rfl
@[simp] theorem State.beginTake_image (s : State) (k : SlotNo) (d : ChainNo) : (s.beginTake k).image d = s.image d := rfl
@[simp] theorem State.beginTake_group (s : State) (k : SlotNo) (j : GroupNo) : (s.beginTake k).group j = s.group j := rfl

/-! ## Reading a record just written -/

/-! ## A chain record out of the warm set -/

@[simp] theorem ChainRec.chilled_defn (r : ChainRec) (cs : ChainState) : (r.chilled cs).defn = r.defn := rfl
@[simp] theorem ChainRec.chilled_state (r : ChainRec) (cs : ChainState) : (r.chilled cs).state = cs := rfl
@[simp] theorem ChainRec.chilled_faultRun (r : ChainRec) (cs : ChainState) : (r.chilled cs).faultRun = r.faultRun := rfl
@[simp] theorem ChainRec.chilled_late (r : ChainRec) (cs : ChainState) : (r.chilled cs).late = r.late := rfl
@[simp] theorem ChainRec.chilled_reads (r : ChainRec) (cs : ChainState) : (r.chilled cs).reads = r.reads := rfl
@[simp] theorem ChainRec.chilled_idle (r : ChainRec) (cs : ChainState) : (r.chilled cs).idle = 0 := rfl
@[simp] theorem ChainRec.chilled_lastRead (r : ChainRec) (cs : ChainState) : (r.chilled cs).lastRead = r.lastRead := rfl
@[simp] theorem ChainRec.chilled_waiting (r : ChainRec) (cs : ChainState) : (r.chilled cs).waiting = r.waiting := rfl
@[simp] theorem ChainRec.chilled_settle (r : ChainRec) (cs : ChainState) : (r.chilled cs).settle = none := rfl
@[simp] theorem ChainRec.chilled_stale (r : ChainRec) (cs : ChainState) : (r.chilled cs).stale = (r.stale || r.settle == some 0) := rfl
@[simp] theorem ChainRec.chilled_periodCounter (r : ChainRec) (cs : ChainState) : (r.chilled cs).periodCounter = r.periodCounter := rfl

/-- Out of the warm set twice. -/
@[simp] theorem ChainRec.chilled_chilled (r : ChainRec) (cs ds : ChainState) :
    (r.chilled cs).chilled ds = r.chilled ds := by
  simp [ChainRec.chilled]

/-- Reading a chain record after one is replaced. -/
theorem State.chain_setChain (s : State) (c d : ChainNo) (r : ChainRec) :
    (s.setChain c r).chain d = if d = c then r else s.chain d := by
  simp only [State.chain, State.setChain, Vector.getElem_set, eq_comm (a := d), Fin.ext_iff]

/-- Reading a chain record after one is changed. -/
theorem State.chain_modChain (s : State) (c d : ChainNo) (f : ChainRec → ChainRec) :
    (s.modChain c f).chain d = if d = c then f (s.chain c) else s.chain d := State.chain_setChain ..

/-- Reading an image after one is replaced. -/
theorem State.image_setImage (s : State) (c d : ChainNo) (i : Image) :
    (s.setImage c i).image d = if d = c then i else s.image d := by
  simp only [State.image, State.setImage, Vector.getElem_set, eq_comm (a := d), Fin.ext_iff]

/-- Reading a group record after one is replaced. -/
theorem State.group_setGroup (s : State) (g n : GroupNo) (r : GroupRec) :
    (s.setGroup g r).group n = if n = g then r else s.group n := by
  simp only [State.group, State.setGroup, Vector.getElem_set, eq_comm (a := n), Fin.ext_iff]

/-- Reading a chain record after its chain left the warm set. -/
theorem State.chain_chill (s : State) (c d : ChainNo) (cs : ChainState) :
    (s.chill c cs).chain d =
      if d = c then (s.chain c).chilled cs else s.chain d :=
  State.chain_modChain s c d fun r => r.chilled cs

/-- Reading a chain record after a grant. -/
theorem State.chain_excite (s : State) (c d : ChainNo) :
    (s.excite c).chain d =
      if d = c then
        { s.chain c with state := .settling, settle := some (Config.cyclesPerSettleUnit * (s.chain c).defn.settleTime) }
      else s.chain d :=
  State.chain_modChain ..

/-- Reading a chain record after a late count. -/
theorem State.chain_countLate (s : State) (c d : ChainNo) :
    (s.countLate c).chain d =
      if d = c then
        { s.chain c with late := if (s.chain c).late = 0xFFFF then 0xFFFF else (s.chain c).late + 1 }
      else s.chain d :=
  State.chain_modChain ..

/-- Reading a chain record after a deferral. -/
theorem State.chain_deferOn (s : State) (c d : ChainNo) (k : SlotNo) :
    (s.deferOn c k).chain d = if d = c then { s.chain c with waiting := .deferred k } else s.chain d :=
  State.chain_modChain ..

/-- Reading a group record after a chain is unprimed (R58). -/
theorem State.group_unprime (s : State) (c : ChainNo) (n : GroupNo) :
    (s.unprime c).group n =
      if (s.group n).defined && (s.group n).chain == c then (s.group n).unprimed else s.group n := by
  simp [State.group, State.unprime, State.setImage, Vector.getElem_ofFn]

/-- Reading an image after a chain is unprimed (R58). -/
theorem State.image_unprime (s : State) (c d : ChainNo) :
    (s.unprime c).image d = if d = c then Image.reset else s.image d := by
  simp only [State.image, State.unprime_images, Vector.getElem_set, eq_comm (a := d), Fin.ext_iff]

end Sys2Proof.Machine
end

