-- ==== Sys2Proof/Laws/Chains.lean ====
section
/-! SUPPORT. The warm set and the reader: what a grant test, a reader's choice, a join, a reconfiguration, a park and the
entry into LOST can change. -/

namespace Sys2Proof.Machine

open Sys2Proof

/-! ## Grants -/

/-- What a grant test can make of a chain: nothing, a grant to a COLD due chain, or the demotion of a WARM, unpinned chain
that is not due (R7, R9). -/
def State.grantMakes (s : State) (d : ChainNo) (r : ChainRec) : Prop :=
  r = s.chain d ∨
  (d ∈ s.due ∧ (s.chain d).state = .cold ∧
    r = { s.chain d with state := .settling
                         settle := some (Config.cyclesPerSettleUnit * (s.chain d).defn.settleTime) }) ∨
  (d ∉ s.due ∧ (s.chain d).state = .warm ∧ (s.chain d).defn.pinned = false ∧
    r = (s.chain d).chilled .cold)

/-- `t` comes from `s` by grants. -/
def State.granted (s t : State) : Prop :=
  (∃ ch l, t = { s with chains := ch, lru := l } ∧ l.Sublist s.lru) ∧ ∀ d, s.grantMakes d (t.chain d)

/-- No grant. -/
theorem State.granted_refl (s : State) : s.granted s :=
  ⟨⟨s.chains, s.lru, rfl, List.Sublist.refl _⟩, fun _ => .inl rfl⟩

/-- Grants compose. -/
theorem State.granted_trans {s t u : State} (h : s.granted t) (k : t.granted u) : s.granted u := by
  obtain ⟨⟨ch, l, rfl, hl⟩, hd⟩ := h
  obtain ⟨⟨ch', l', rfl, hl'⟩, hd'⟩ := k
  refine ⟨⟨ch', l', rfl, hl'.trans hl⟩, fun d => ?_⟩
  have h1 := hd d
  have h2 := hd' d
  unfold State.grantMakes at h1 h2 ⊢
  simp only at h2
  rcases h1 with h1 | ⟨a, b, h1⟩ | ⟨a, b, c, h1⟩ <;> rcases h2 with h2 | ⟨a', b', h2⟩ | ⟨a', b', c', h2⟩ <;>
    simp_all

/-- A chain that is COLD and earliest so in the due queue. -/
theorem State.dueCold_spec {s : State} {c : ChainNo} (h : s.dueCold = some c) :
    c ∈ s.due ∧ (s.chain c).state = .cold := by
  unfold State.dueCold at h
  exact ⟨List.mem_of_find?_eq_some h, by simpa using List.find?_some h⟩

/-- The victim is WARM, unpinned, not due, and in the LRU order. -/
theorem State.victim_spec {s : State} {v : ChainNo} (h : s.victim = some v) :
    v ∈ s.lru ∧ (s.chain v).state = .warm ∧ (s.chain v).defn.pinned = false ∧ v ∉ s.due := by
  unfold State.victim at h
  have := List.find?_some h
  simp only [State.eligible, Bool.and_eq_true, beq_iff_eq, Bool.not_eq_true', List.contains_eq_mem,
    decide_eq_false_iff_not] at this
  exact ⟨List.mem_of_find?_eq_some h, this.1.1, this.1.2, this.2⟩

/-- One grant. -/
theorem State.grantOne_changes {s t : State} (h : s.grantOne = some t) : s.granted t := by
  unfold State.grantOne at h
  split at h
  · cases h
  · rename_i c hc
    obtain ⟨hdue, hcold⟩ := State.dueCold_spec hc
    split at h
    · cases h
      refine ⟨⟨_, s.lru, rfl, List.Sublist.refl _⟩, fun d => ?_⟩
      rw [State.chain_excite]
      by_cases e : d = c
      · subst e
        simp [State.grantMakes, hdue, hcold]
      · simp [State.grantMakes, e]
    · split at h
      · cases h
      · rename_i v hv
        obtain ⟨-, hwarm, hpin, hnd⟩ := State.victim_spec hv
        cases h
        refine ⟨⟨_, s.lru.filter (· != v), rfl, List.filter_sublist⟩, fun d => ?_⟩
        have hcv : c ≠ v := by
          intro e
          rw [e, hwarm] at hcold
          cases hcold
        rw [State.chain_excite, State.chain_chill, State.chain_chill]
        by_cases e : d = c
        · subst e
          simp [State.grantMakes, hdue, hcold, hcv]
        · by_cases e' : d = v
          · subst e'
            simp [State.grantMakes, hwarm, hpin, hnd, e]
          · simp [State.grantMakes, e, e']

/-- Grants made one after another. -/
theorem State.grantLoop_changes (n : Nat) (s : State) : s.granted (s.grantLoop n) := by
  induction n generalizing s with
  | zero => exact s.granted_refl
  | succ n ih =>
    unfold State.grantLoop
    split
    · exact s.granted_refl
    · rename_i t ht
      exact State.granted_trans (State.grantOne_changes ht) (ih t)

/-- The grant test. -/
theorem State.grantTest_changes (s : State) : s.granted s.grantTest := s.grantLoop_changes 16

/-- With no COLD chain due the grant test does nothing. -/
theorem State.grantTest_of_noneCold {s : State} (h : ∀ d ∈ s.due, (s.chain d).state ≠ .cold) : s.grantTest = s := by
  unfold State.grantTest State.grantLoop State.grantOne
  have : s.dueCold = none := by
    unfold State.dueCold
    simpa [List.find?_eq_none] using h
  simp [this]

/-- With no chain due the grant test does nothing. -/
theorem State.grantTest_of_noDue {s : State} (h : s.due = []) : s.grantTest = s :=
  State.grantTest_of_noneCold (by simp [h])

/-- What the grant test leaves of every chain: its definition, counters, list and period counter. -/
theorem State.chain_grantTest (s : State) (d : ChainNo) :
    s.grantTest.chain d = { s.chain d with
      state := (s.grantTest.chain d).state, settle := (s.grantTest.chain d).settle
      idle := (s.grantTest.chain d).idle, stale := (s.grantTest.chain d).stale } := by
  rcases s.grantTest_changes.2 d with h | ⟨-, -, h⟩ | ⟨-, -, -, h⟩ <;> rw [h]
  rfl

/-- The grant test leaves alone a chain that is neither COLD and due nor WARM and not due. -/
theorem State.chain_grantTest_of {s : State} {d : ChainNo} (h1 : d ∈ s.due → (s.chain d).state ≠ .cold)
    (h2 : d ∉ s.due → (s.chain d).state ≠ .warm) : s.grantTest.chain d = s.chain d := by
  rcases s.grantTest_changes.2 d with h | ⟨a, b, -⟩ | ⟨a, b, -⟩
  · exact h
  · exact absurd b (h1 a)
  · exact absurd b (h2 a)

/-! ## The reader's choice and joins -/

/-- The WARM chain earliest in the due queue is due and WARM. -/
theorem State.dueWarm_spec {s : State} {c : ChainNo} (h : s.dueWarm = some c) :
    c ∈ s.due ∧ (s.chain c).state = .warm := by
  unfold State.dueWarm at h
  exact ⟨List.mem_of_find?_eq_some h, by simpa using List.find?_some h⟩

/-- The reader's choice: nothing, or a read of a due WARM chain starts. -/
theorem State.readerChoice_changes (s : State) : s.readerChoice = s ∨
    ∃ g c, s.read = none ∧ s.run.geometry = some g ∧ c ∈ s.due ∧ (s.chain c).state = .warm ∧
      s.readerChoice = s.startRead g c := by
  unfold State.readerChoice
  split
  · rename_i g c h1 h2 h3
    exact .inr ⟨g, c, h1, h2, (State.dueWarm_spec h3).1, (State.dueWarm_spec h3).2, rfl⟩
  · exact .inl rfl

/-- With no WARM chain due the reader stays as it is. -/
theorem State.readerChoice_of_noneWarm {s : State} (h : ∀ d ∈ s.due, (s.chain d).state ≠ .warm) :
    s.readerChoice = s := by
  rcases s.readerChoice_changes with h' | ⟨g, c, -, -, hc, hw, -⟩
  · exact h'
  · exact absurd hw (h c hc)

/-- A busy reader makes no choice. -/
theorem State.readerChoice_of_busy {s : State} (h : s.read.isSome = true) : s.readerChoice = s := by
  rcases s.readerChoice_changes with h' | ⟨g, c, hn, -⟩
  · exact h'
  · simp [hn] at h

/-- Reading a chain record after a read start. -/
theorem State.chain_startRead (s : State) (g : Geometry) (c d : ChainNo) :
    (s.startRead g c).chain d = if d = c then { s.chain c with state := .reading } else s.chain d :=
  State.chain_modChain s c d fun r => { r with state := .reading }

/-- A read start leaves every chain's definition, counters, list and period counter. -/
theorem State.chain_startRead_kept (s : State) (g : Geometry) (c d : ChainNo) :
    (s.startRead g c).chain d = { s.chain d with
      state := ((s.startRead g c).chain d).state, settle := ((s.startRead g c).chain d).settle
      idle := ((s.startRead g c).chain d).idle, stale := ((s.startRead g c).chain d).stale } := by
  rw [State.chain_startRead]
  by_cases x : d = c
  · subst x; simp
  · simp [x]

/-- A join changes chains, LRU order, due queue and reader alone, and leaves every chain's definition, counters, list and
period counter. -/
theorem State.joinDue_changes (s : State) (c : ChainNo) : (∃ ch l q rd, s.joinDue c =
    { s with chains := ch, lru := l, due := q, read := rd }) ∧
    ∀ d, (s.joinDue c).chain d = { s.chain d with
      state := ((s.joinDue c).chain d).state, settle := ((s.joinDue c).chain d).settle
      idle := ((s.joinDue c).chain d).idle, stale := ((s.joinDue c).chain d).stale } := by
  unfold State.joinDue
  split
  · exact ⟨⟨_, _, _, _, rfl⟩, fun _ => rfl⟩
  · dsimp only
    split
    · obtain ⟨⟨ch, l, h, -⟩, -⟩ := ({ s with due := s.due ++ [c] } : State).grantTest_changes
      refine ⟨⟨ch, l, s.due ++ [c], s.read, h⟩, fun d => ?_⟩
      exact State.chain_grantTest { s with due := s.due ++ [c] } d
    · rcases ({ s with due := s.due ++ [c] } : State).readerChoice_changes with h | ⟨g, e, -, -, -, -, h⟩
      · rw [h]
        exact ⟨⟨_, _, _, _, rfl⟩, fun _ => rfl⟩
      · rw [h]
        exact ⟨⟨_, _, _, _, rfl⟩, fun d => State.chain_startRead_kept { s with due := s.due ++ [c] } g e d⟩
    all_goals exact ⟨⟨_, _, _, _, rfl⟩, fun _ => rfl⟩

/-! ## Reconfiguration, park, loss -/

/-- Reconfiguration changes chains, LRU order, due queue, images, groups and the outstanding period expiries alone. -/
theorem State.reconfigure_changes (s : State) (c : ChainNo) (d : ChainDef) : ∃ ch l, s.reconfigure c d =
    { s with chains := ch, lru := l, due := s.due.filter (· != c), images := (s.unprime c).images
             groups := (s.unprime c).groups
             frame := { s.frame with expiries := s.frame.expiries.filter (· != c) } } ∧ l.Sublist s.lru := by
  unfold State.reconfigure
  dsimp only
  split
  · obtain ⟨⟨ch, l, h, hl⟩, -⟩ := State.grantTest_changes
      (((((s.chill c .off).leaveDue c).modChain c fun r => r.reconfigured d).unprime c).cancelExpiry c)
    exact ⟨ch, l, h, hl.trans List.filter_sublist⟩
  · exact ⟨_, _, rfl, List.filter_sublist⟩

/-- The record of a chain just reconfigured (R22). -/
theorem State.chain_reconfigure_self (s : State) (c : ChainNo) (d : ChainDef) :
    (s.reconfigure c d).chain c = ((s.chain c).chilled .off).reconfigured d := by
  have key : (((((s.chill c .off).leaveDue c).modChain c fun r => r.reconfigured d).unprime c).cancelExpiry c).chain c
      = ((s.chain c).chilled .off).reconfigured d := by
    simp [State.chain_modChain, State.chain_chill]
  unfold State.reconfigure
  dsimp only
  split
  · rw [State.chain_grantTest_of, key]
    · simp
    · intro _
      rw [key]
      simp only [ChainRec.reconfigured]
      split <;> simp
  · exact key

/-- The other chains at a reconfiguration: what a grant test makes of them. -/
theorem State.chain_reconfigure_other (s : State) {c e : ChainNo} (d : ChainDef) (h : e ≠ c) :
    (s.reconfigure c d).chain e = { s.chain e with
      state := ((s.reconfigure c d).chain e).state, settle := ((s.reconfigure c d).chain e).settle
      idle := ((s.reconfigure c d).chain e).idle, stale := ((s.reconfigure c d).chain e).stale } := by
  have key : (((((s.chill c .off).leaveDue c).modChain c fun r => r.reconfigured d).unprime c).cancelExpiry c).chain e
      = s.chain e := by
    simp [State.chain_modChain, State.chain_chill, h]
  unfold State.reconfigure
  dsimp only
  split
  · rw [← key]
    exact State.chain_grantTest _ e
  · rw [key]

/-- Park changes chains, LRU order and due queue alone. -/
theorem State.park_changes (s : State) (c : ChainNo) : ∃ ch l, s.park c =
    { s with chains := ch, lru := l, due := s.due.filter (· != c) } ∧ l.Sublist (s.lru.filter (· != c)) := by
  unfold State.park
  dsimp only
  split
  · obtain ⟨⟨ch, l, h, hl⟩, -⟩ := State.grantTest_changes ((s.chill c .cold).leaveDue c)
    exact ⟨ch, l, h, hl⟩
  · exact ⟨_, _, rfl, List.Sublist.refl _⟩

/-- The record of a chain just parked (R23). -/
theorem State.chain_park_self (s : State) (c : ChainNo) :
    (s.park c).chain c = (s.chain c).chilled .cold := by
  have key : ((s.chill c .cold).leaveDue c).chain c = (s.chain c).chilled .cold := by
    simp [State.chain_chill]
  unfold State.park
  dsimp only
  split
  · rw [State.chain_grantTest_of, key]
    · simp
    · intro _
      rw [key]
      simp
  · exact key

/-- The other chains at a park: what a grant test makes of them. -/
theorem State.chain_park_other (s : State) {c e : ChainNo} (h : e ≠ c) :
    (s.park c).chain e = { s.chain e with
      state := ((s.park c).chain e).state, settle := ((s.park c).chain e).settle
      idle := ((s.park c).chain e).idle, stale := ((s.park c).chain e).stale } := by
  have key : ((s.chill c .cold).leaveDue c).chain e = s.chain e := by
    simp [State.chain_chill, h]
  unfold State.park
  dsimp only
  split
  · rw [← key]
    exact State.chain_grantTest _ e
  · rw [key]

/-- Entry into LOST changes chains, LRU order, due queue and the outstanding period expiries alone. -/
theorem State.enterLost_changes (s : State) (c : ChainNo) : ∃ ch, s.enterLost c =
    { s with chains := ch, lru := s.lru.filter (· != c), due := s.due.filter (· != c)
             frame := { s.frame with expiries := s.frame.expiries.filter (· != c) } } :=
  ⟨_, rfl⟩

/-- The chains at an entry into LOST (R19). -/
theorem State.chain_enterLost (s : State) (c d : ChainNo) : (s.enterLost c).chain d =
    if d = c then { (s.chain c).chilled .lost with periodCounter := 0 } else s.chain d := by
  unfold State.enterLost
  by_cases h : d = c
  · subst h
    simp [State.chain_modChain, State.chain_chill]
  · simp [State.chain_modChain, State.chain_chill, h]

end Sys2Proof.Machine
end

