-- ==== Sys2Proof/Laws/Memory.lean ====
section
/-! SUPPORT. The window RAM: every write keeps the canonical form, and what a byte reads as after it. -/

namespace Sys2Proof.Machine

open Sys2Proof

/-! ## The canonical form -/

/-- A canonical memory above a bound is one above any lower bound. -/
theorem Memory.risingFrom_mono {lo hi : Nat} {m : Memory} (h : m.risingFrom hi = true) (le : lo ≤ hi) :
    m.risingFrom lo = true := by
  cases m with
  | nil => rfl
  | cons cell rest =>
    simp only [Memory.risingFrom, Bool.and_eq_true, decide_eq_true_eq] at h ⊢
    exact ⟨⟨le.trans h.1.1, h.1.2⟩, h.2⟩

/-- Below its bound a canonical memory reads 00h. -/
theorem Memory.read_below {lo a : Nat} {m : Memory} (h : m.risingFrom lo = true) (lt : a < lo) : m.read a = 0 := by
  induction m generalizing lo with
  | nil => rfl
  | cons cell rest ih =>
    obtain ⟨k, v⟩ := cell
    simp only [Memory.risingFrom, Bool.and_eq_true, decide_eq_true_eq] at h
    simp only [Memory.read, if_neg (show ¬ a = k by omega)]
    exact ih h.2 (by omega)

/-- Writing a byte keeps the canonical form. -/
theorem Memory.risingFrom_write {lo a : Nat} {b : Byte} {m : Memory} (h : m.risingFrom lo = true) (le : lo ≤ a) :
    (m.write a b).risingFrom lo = true := by
  induction m generalizing lo with
  | nil =>
    by_cases hb : b = 0#8
    · simp [Memory.write, hb, Memory.risingFrom]
    · simp [Memory.write, hb, Memory.risingFrom, le]
  | cons cell rest ih =>
    obtain ⟨k, v⟩ := cell
    simp only [Memory.risingFrom, Bool.and_eq_true, decide_eq_true_eq, bne_iff_ne, ne_eq] at h
    obtain ⟨⟨hk, hv⟩, hr⟩ := h
    change ¬ v = 0#8 at hv
    by_cases hb : b = 0#8
    · subst hb
      by_cases h1 : a < k
      · simp [Memory.write, h1, Memory.risingFrom, hk, hv, hr]
      · by_cases h2 : a = k
        · subst h2
          simpa [Memory.write] using Memory.risingFrom_mono hr (by omega)
        · have := ih hr (show k + 1 ≤ a by omega)
          simp [Memory.write, h1, h2, Memory.risingFrom, hk, hv, this]
    · by_cases h1 : a < k
      · have := Memory.risingFrom_mono (lo := k) hr (by omega)
        simp [Memory.write, h1, hb, Memory.risingFrom, le, hv, hr, Nat.succ_le_of_lt h1]
      · by_cases h2 : a = k
        · subst h2
          simp [Memory.write, hb, Memory.risingFrom, le, hr]
        · have := ih hr (show k + 1 ≤ a by omega)
          simp [Memory.write, h1, h2, Memory.risingFrom, hk, hv, this]

/-- Writing a byte keeps the canonical form. -/
theorem Memory.wf_write {m : Memory} (h : m.wf = true) (a : Nat) (b : Byte) : (m.write a b).wf = true :=
  Memory.risingFrom_write h (Nat.zero_le a)

/-- Writing bytes keeps the canonical form. -/
theorem Memory.wf_writeBytes {m : Memory} (h : m.wf = true) (a : Nat) (bs : List Byte) :
    (m.writeBytes a bs).wf = true := by
  induction bs generalizing m a with
  | nil => exact h
  | cons b bs ih => exact ih (Memory.wf_write h a b) (a + 1)

/-- Clearing bytes keeps the canonical form. -/
theorem Memory.risingFrom_clear {lo : Nat} {m : Memory} (h : m.risingFrom lo = true) (a n : Nat) :
    (m.clear a n).risingFrom lo = true := by
  induction m generalizing lo with
  | nil => rfl
  | cons cell rest ih =>
    obtain ⟨k, v⟩ := cell
    simp only [Memory.risingFrom, Bool.and_eq_true, decide_eq_true_eq] at h
    have := ih h.2
    simp only [Memory.clear] at this ⊢
    rw [List.filter_cons]
    split
    · simp only [Memory.risingFrom, Bool.and_eq_true, decide_eq_true_eq]
      exact ⟨h.1, this⟩
    · exact Memory.risingFrom_mono this (by omega)

/-- Clearing bytes keeps the canonical form. -/
theorem Memory.wf_clear {m : Memory} (h : m.wf = true) (a n : Nat) : (m.clear a n).wf = true :=
  Memory.risingFrom_clear h a n

/-- The memory with nothing listed is canonical. -/
theorem Memory.wf_nil : Memory.wf [] = true := rfl

/-! ## Reading after writing -/

/-- A byte after a byte was written. -/
theorem Memory.read_write_from {lo : Nat} {m : Memory} (h : m.risingFrom lo = true) (a x : Nat) (b : Byte) :
    (m.write a b).read x = if x = a then b else m.read x := by
  induction m generalizing lo with
  | nil =>
    by_cases hb : b = 0#8
    · by_cases hx : x = a <;> simp [Memory.write, hb, Memory.read, hx]
    · by_cases hx : x = a <;> simp [Memory.write, hb, Memory.read, hx]
  | cons cell rest ih =>
    obtain ⟨k, v⟩ := cell
    have hall := h
    simp only [Memory.risingFrom, Bool.and_eq_true, decide_eq_true_eq] at h
    obtain ⟨-, hr⟩ := h
    rcases Nat.lt_trichotomy a k with h1 | h1 | h1
    · by_cases hb : b = 0#8
      · by_cases hx : x = a
        · subst hx
          have := Memory.read_below (a := x) hr (by omega)
          simp [Memory.write, h1, hb, Memory.read, Nat.ne_of_lt h1, this]
        · simp [Memory.write, h1, hb, hx]
      · by_cases hx : x = a <;> simp [Memory.write, h1, hb, Memory.read, hx]
    · subst h1
      by_cases hb : b = 0#8
      · by_cases hx : x = a
        · subst hx
          have := Memory.read_below (a := x) hr (by omega)
          simp [Memory.write, hb, this]
        · simp [Memory.write, hb, Memory.read, hx]
      · by_cases hx : x = a <;> simp [Memory.write, hb, Memory.read, hx]
    · have n1 : ¬ a < k := by omega
      have n2 : ¬ a = k := by omega
      simp only [Memory.write, if_neg n1, if_neg n2, Memory.read, ih hr]
      by_cases hx : x = k
      · have : ¬ x = a := by omega
        simp [hx, Ne.symm n2]
      · simp [hx]

/-- A byte after a byte was written. -/
theorem Memory.read_write {m : Memory} (h : m.wf = true) (a x : Nat) (b : Byte) :
    (m.write a b).read x = if x = a then b else m.read x := Memory.read_write_from h a x b

/-- A byte after bytes were written. -/
theorem Memory.read_writeBytes {m : Memory} (h : m.wf = true) (a x : Nat) (bs : List Byte) :
    (m.writeBytes a bs).read x = if a ≤ x ∧ x < a + bs.length then bs.getD (x - a) 0 else m.read x := by
  induction bs generalizing m a with
  | nil => simp [Memory.writeBytes, show ¬ (a ≤ x ∧ x < a) by omega]
  | cons b bs ih =>
    rw [Memory.writeBytes, ih (Memory.wf_write h a b), Memory.read_write h, List.length_cons]
    by_cases hx : x = a
    · subst hx
      simp
    · by_cases hin : a + 1 ≤ x ∧ x < a + 1 + bs.length
      · rw [if_pos hin, if_pos (by omega), show x - a = (x - (a + 1)) + 1 by omega, List.getD_cons_succ]
      · rw [if_neg hin, if_neg hx, if_neg (by omega)]

/-- A byte after bytes were cleared. -/
theorem Memory.read_clear (m : Memory) (a n x : Nat) :
    (m.clear a n).read x = if a ≤ x ∧ x < a + n then 0 else m.read x := by
  induction m with
  | nil => simp [Memory.clear, Memory.read]
  | cons cell rest ih =>
    obtain ⟨k, v⟩ := cell
    simp only [Memory.clear] at ih ⊢
    rw [List.filter_cons]
    by_cases hk : k < a ∨ a + n ≤ k
    · rw [if_pos (by simpa using hk), Memory.read, ih]
      by_cases hx : x = k
      · have : ¬ (a ≤ x ∧ x < a + n) := by omega
        rw [if_pos hx, if_neg this, Memory.read, if_pos hx]
      · rw [if_neg hx, Memory.read, if_neg hx]
    · rw [if_neg (by simpa using hk), ih, Memory.read]
      by_cases hx : x = k
      · rw [if_pos (by omega), if_pos (by omega)]
      · rw [if_neg hx]

/-- Canonical memories that read alike are equal. -/
theorem Memory.ext_of_risingFrom {lo : Nat} {m n : Memory} (hm : m.risingFrom lo = true) (hn : n.risingFrom lo = true)
    (h : ∀ a, m.read a = n.read a) : m = n := by
  induction m generalizing lo n with
  | nil =>
    cases n with
    | nil => rfl
    | cons cell rest =>
      obtain ⟨k, v⟩ := cell
      simp only [Memory.risingFrom, Bool.and_eq_true, decide_eq_true_eq, bne_iff_ne, ne_eq] at hn
      have := h k
      simp only [Memory.read, if_true] at this
      exact absurd this.symm hn.1.2
  | cons cell rest ih =>
    obtain ⟨k, v⟩ := cell
    have hm' := hm
    simp only [Memory.risingFrom, Bool.and_eq_true, decide_eq_true_eq, bne_iff_ne, ne_eq] at hm
    cases n with
    | nil =>
      have := h k
      simp only [Memory.read, if_true] at this
      exact absurd this hm.1.2
    | cons cell' rest' =>
      obtain ⟨k', v'⟩ := cell'
      simp only [Memory.risingFrom, Bool.and_eq_true, decide_eq_true_eq, bne_iff_ne, ne_eq] at hn
      have hk : k = k' := by
        rcases Nat.lt_trichotomy k k' with lt | e | lt
        · have := h k
          rw [Memory.read, if_pos rfl, Memory.read, if_neg (Nat.ne_of_lt lt),
            Memory.read_below hn.2 (by omega)] at this
          exact absurd this hm.1.2
        · exact e
        · have := h k'
          rw [Memory.read, if_neg (Nat.ne_of_lt lt), Memory.read, if_pos rfl,
            Memory.read_below hm.2 (by omega)] at this
          exact absurd this.symm hn.1.2
      subst hk
      have hv : v = v' := by simpa [Memory.read] using h k
      subst hv
      have : rest = rest' := by
        refine ih hm.2 hn.2 fun a => ?_
        by_cases ha : a = k
        · subst ha
          rw [Memory.read_below hm.2 (by omega), Memory.read_below hn.2 (by omega)]
        · simpa [Memory.read, ha] using h a
      rw [this]

/-! ## Wider fields -/

/-- A 16-bit field of its own bytes. -/
theorem halfOf_bytes (h : Half) : halfOf (h.extractLsb' 0 8) (h.extractLsb' 8 8) = h := by
  unfold halfOf
  ext i hi
  simp only [BitVec.getElem_append, BitVec.getElem_extractLsb']
  split
  · rw [← BitVec.getLsbD_eq_getElem]
    simp
  · rw [← BitVec.getLsbD_eq_getElem]
    congr 1
    omega

/-- A 32-bit field of its own bytes. -/
theorem wordOf_bytes (w : Word) :
    wordOf (w.extractLsb' 0 8) (w.extractLsb' 8 8) (w.extractLsb' 16 8) (w.extractLsb' 24 8) = w := by
  unfold wordOf
  apply BitVec.eq_of_getLsbD_eq
  intro i hi
  simp only [BitVec.getLsbD_append, BitVec.getLsbD_extractLsb', Nat.zero_add]
  split
  · simp [*]
  · split
    · simp only [show i - 8 < 8 by omega, decide_true, Bool.true_and]
      congr 1; omega
    · split
      · simp only [show i - 8 - 8 < 8 by omega, decide_true, Bool.true_and]
        congr 1; omega
      · simp only [show i - 8 - 8 - 8 < 8 by omega, decide_true, Bool.true_and]
        congr 1; omega

/-- The bytes of a 16-bit field number 2. -/
theorem halfBytes_length (h : Half) : (halfBytes h).length = 2 := rfl

/-- The bytes of a 32-bit field number 4. -/
theorem wordBytes_length (w : Word) : (wordBytes w).length = 4 := rfl

/-- A record takes sixteen bytes (R77). -/
theorem Record.bytes_length (r : Record) : r.bytes.length = 16 := rfl

/-- A page header takes sixteen bytes (R95). -/
theorem State.openHeader_length (s : State) : s.openHeader.length = 16 := rfl

/-- The answer's part of a slot takes 32 bytes (R112). -/
theorem State.answerBytes_length (s : State) (a : Answer) : (s.answerBytes a).length = 32 := by
  simp [State.answerBytes, payloadBytes, wordBytes]

end Sys2Proof.Machine
end

