-- ==== Sys2Proof/Laws/Port.lean ====
section
/-! SUPPORT. The port's bits and bytes: a byte clocked bit by bit is the byte, and what a byte leaves of the port. -/

namespace Sys2Proof.Machine

open Sys2Proof

/-- The bits of a byte, most significant first, make the byte (R174). -/
theorem byteOf_byteBits (b : Byte) : byteOf (byteBits b) = b := by
  revert b
  decide +kernel

/-- No bit clocked. -/
@[simp] theorem State.clockBits_nil (s : State) : s.clockBits [] = s := rfl

/-- One bit clocked, then the others. -/
@[simp] theorem State.clockBits_cons (s : State) (b : Bool) (bits : List Bool) :
    s.clockBits (b :: bits) = (s.clockBit b).clockBits bits := rfl

/-- Bits clocked in two runs. -/
theorem State.clockBits_append (s : State) (bits more : List Bool) :
    s.clockBits (bits ++ more) = (s.clockBits bits).clockBits more := List.foldl_append

/-- In a transaction that is ignored, and outside one, a bit does nothing (R174, R181). -/
theorem State.clockBit_of_deaf {s : State} (h : s.port.phase = .closed ∨ s.port.phase = .ignored) (b : Bool) :
    s.clockBit b = s := by
  unfold State.clockBit
  rcases h with h | h <;> simp [h]

/-- In a transaction that is ignored, and outside one, no bit does anything (R174, R181). -/
theorem State.clockBits_of_deaf {s : State} (h : s.port.phase = .closed ∨ s.port.phase = .ignored) (bits : List Bool) :
    s.clockBits bits = s := by
  induction bits with
  | nil => rfl
  | cons b bits ih => rw [State.clockBits_cons, State.clockBit_of_deaf h, ih]

/-- Fewer than eight bits of a byte wait for the others (R174). -/
theorem State.clockBit_of_partial {s : State} (h1 : s.port.phase ≠ .closed) (h2 : s.port.phase ≠ .ignored)
    (h : s.port.shift.length < 7) (b : Bool) :
    s.clockBit b = s.setPort { s.port with shift := s.port.shift ++ [b] } := by
  unfold State.clockBit
  simp [h1, h2, h]

/-- The eighth bit completes the byte (R174). -/
theorem State.clockBit_of_last {s : State} (h1 : s.port.phase ≠ .closed) (h2 : s.port.phase ≠ .ignored)
    (h : ¬ s.port.shift.length < 7) (b : Bool) :
    s.clockBit b = (s.setPort { s.port with shift := [] }).portByte (byteOf (s.port.shift ++ [b])) := by
  unfold State.clockBit
  simp only [h1, h2, decide_false, Bool.or_self, Bool.false_eq_true, h, ↓reduceIte]

/-- Eight bits on a byte's boundary are their byte (R174). -/
theorem State.clockBits_byte {s : State} (h1 : s.port.phase ≠ .closed) (h2 : s.port.phase ≠ .ignored)
    (h : s.port.shift = []) (b : Byte) : s.clockBits (byteBits b) = s.portByte b := by
  have e : s.setPort { s.port with shift := [] } = s := by rw [← h]; rfl
  have step : ∀ (t : State) (shift : List Bool) (x : Bool), t = s.setPort { s.port with shift := shift } →
      shift.length < 7 → t.clockBit x = s.setPort { s.port with shift := shift ++ [x] } := by
    intro t shift x ht hl
    subst ht
    exact State.clockBit_of_partial (s := s.setPort { s.port with shift := shift }) h1 h2 hl x
  have last : ∀ (shift : List Bool) (x : Bool), ¬ shift.length < 7 →
      (s.setPort { s.port with shift := shift }).clockBit x = s.portByte (byteOf (shift ++ [x])) := by
    intro shift x hl
    rw [State.clockBit_of_last (s := s.setPort { s.port with shift := shift }) h1 h2 hl x]
    exact congrArg (fun u : State => u.portByte (byteOf (shift ++ [x]))) e
  rw [← byteOf_byteBits b]
  conv => lhs; rw [byteOf_byteBits b]
  simp only [byteBits, State.clockBits_cons, State.clockBits_nil]
  rw [step s [] _ e.symm (by simp), step _ _ _ rfl (by simp), step _ _ _ rfl (by simp), step _ _ _ rfl (by simp),
    step _ _ _ rfl (by simp), step _ _ _ rfl (by simp), step _ _ _ rfl (by simp), last _ _ (by simp)]
  rfl

/-- A byte leaves no bit waiting. -/
theorem State.shift_portByte {s : State} (h : s.port.shift = []) (b : Byte) : (s.portByte b).port.shift = [] := by
  unfold State.portByte
  split
  · exact h
  · exact h
  · rfl
  · rfl
  · split <;> rfl
  · rfl
  · rfl
  · split <;> rfl
  · rfl
  · rfl
  · rfl
  · rfl

/-- A byte never ends a transaction (R174). -/
theorem State.phase_portByte {s : State} (h : s.port.phase ≠ .closed) (b : Byte) :
    (s.portByte b).port.phase ≠ .closed := by
  unfold State.portByte
  split
  · exact h
  · exact h
  · show instructionPhase b ≠ .closed
    unfold instructionPhase
    repeat' split
    all_goals simp
  · exact PortPhase.noConfusion
  · split <;> exact PortPhase.noConfusion
  · exact PortPhase.noConfusion
  · exact PortPhase.noConfusion
  · split <;> exact PortPhase.noConfusion
  · exact PortPhase.noConfusion
  · exact PortPhase.noConfusion
  · exact PortPhase.noConfusion
  · exact PortPhase.noConfusion

end Sys2Proof.Machine
end

