-- ==== Sys2Proof/Laws/Records.lean ====
section
/-! SUPPORT. The record and page operations: for each, one lemma that says which fields it can change. The board of slots,
the header and everything else below 0340h is never theirs. -/

namespace Sys2Proof.Machine

open Sys2Proof

/-- Below the page table `n` reads as `m`, and is canonical if `m` is. -/
def Memory.keepsBoard (m n : Memory) : Prop := m.wf = true → n.wf = true ∧ ∀ a, a < 0x340 → n.read a = m.read a

/-- A memory keeps its own board. -/
theorem Memory.keepsBoard_refl (m : Memory) : m.keepsBoard m := fun h => ⟨h, fun _ _ => rfl⟩

/-- Keeping the board is transitive. -/
theorem Memory.keepsBoard_trans {m n o : Memory} (h : m.keepsBoard n) (k : n.keepsBoard o) : m.keepsBoard o :=
  fun w => ⟨(k (h w).1).1, fun a ha => ((k (h w).1).2 a ha).trans ((h w).2 a ha)⟩

/-- A byte from 0340h on keeps the board. -/
theorem Memory.keepsBoard_write (m : Memory) {a : Nat} (b : Byte) (ha : 0x340 ≤ a) : m.keepsBoard (m.write a b) :=
  fun w => ⟨Memory.wf_write w a b, fun x hx => by rw [Memory.read_write w, if_neg (by omega)]⟩

/-- Bytes from 0340h on keep the board. -/
theorem Memory.keepsBoard_writeBytes (m : Memory) {a : Nat} (bs : List Byte) (ha : 0x340 ≤ a) :
    m.keepsBoard (m.writeBytes a bs) :=
  fun w => ⟨Memory.wf_writeBytes w a bs, fun x hx => by rw [Memory.read_writeBytes w, if_neg (by omega)]⟩

/-- Clearing from 0340h on keeps the board. -/
theorem Memory.keepsBoard_clear (m : Memory) {a : Nat} (n : Nat) (ha : 0x340 ≤ a) : m.keepsBoard (m.clear a n) :=
  fun w => ⟨Memory.wf_clear w a n, fun x hx => by rw [Memory.read_clear, if_neg (by omega)]⟩

/-- A page table entry lies from 0340h on. -/
theorem entryBase_le (p : PageNo) : 0x340 ≤ entryBase p ∧ entryBase p + 4 ≤ 0x3E0 := by
  unfold entryBase; omega

/-- A page lies from 0700h on. -/
theorem pageBase_le (p : PageNo) : 0x700 ≤ pageBase p ∧ pageBase p + 0x100 ≤ 0x2F00 := by
  unfold pageBase; omega

/-- A slot lies from 0040h to 033Fh. -/
theorem slotBase_le (k : SlotNo) : 0x40 ≤ slotBase k ∧ slotBase k + 48 ≤ 0x340 := by
  unfold slotBase; omega

/-- The flags with SEALED perhaps set. -/
def sealedPerhaps (f g : BitVec 7) : Prop := g = f ∨ g = f ||| 0x01

/-- SEALED perhaps set, twice. -/
theorem sealedPerhaps_trans {f g h : BitVec 7} (a : sealedPerhaps f g) (b : sealedPerhaps g h) : sealedPerhaps f h := by
  rcases a with rfl | rfl <;> rcases b with rfl | rfl
  · exact .inl rfl
  · exact .inr rfl
  · exact .inr rfl
  · exact .inr (by rw [BitVec.or_assoc]; rfl)

/-! ## Records -/

/-- Placing an OVERRUN record changes the Record Unit alone. -/
theorem State.placeOverrun_changes (s : State) : ∃ r, s.placeOverrun = { s with records := r } := by
  unfold State.placeOverrun
  split
  · exact ⟨s.records, rfl⟩
  · exact ⟨_, rfl⟩

/-- Removing the head changes the Record Unit alone. -/
theorem State.removeHead_changes (s : State) : ∃ r, s.removeHead = { s with records := r } := by
  obtain ⟨r, h⟩ := (s.setRecords
    { s.records with queue := s.records.queue.tail, written := s.records.written + 1 }).placeOverrun_changes
  exact ⟨r, h⟩

/-- Dropping a record changes the Record Unit, and the OVERRUN flag at an episode's first drop. -/
theorem State.dropRecord_changes (s : State) : ∃ r f, s.dropRecord =
    { s with records := r, alerts := { s.alerts with flags := f } } ∧ (f = s.alerts.flags ∨ f = s.alerts.flags ||| 0x10) := by
  unfold State.dropRecord
  dsimp only
  generalize (if s.records.overrun = 0xFFFF then (0xFFFF : Half) else s.records.overrun + 1) = o
  by_cases h : s.records.overrun = 0
  · rw [if_pos h]
    exact ⟨_, _, rfl, .inr rfl⟩
  · rw [if_neg h]
    exact ⟨_, _, rfl, .inl rfl⟩

/-! ## Pages -/

/-- Placing a record changes the window alone, and keeps the board. -/
theorem State.placeRecord_changes (s : State) (p : PageNo) (r : Record) :
    ∃ w, s.placeRecord p r = s.setWindow w ∧ s.window.keepsBoard w := by
  have h1 := entryBase_le p
  have h2 := pageBase_le p
  have hp : ∀ n, 0x340 ≤ placeBase p n := fun n => by unfold placeBase; omega
  refine ⟨((s.window.writeBytes (placeBase p (s.recordCount p + 1).toNat) r.bytes).write (pageBase p + 6)
    (s.recordCount p + 1)).write (entryBase p + 1) (s.recordCount p + 1), ?_, ?_⟩
  · simp only [State.placeRecord]
  exact Memory.keepsBoard_trans
    (Memory.keepsBoard_trans (Memory.keepsBoard_writeBytes _ _ (hp _)) (Memory.keepsBoard_write _ _ (by omega)))
    (Memory.keepsBoard_write _ _ (by omega))

/-- Opening a page changes the window and the Page Writer, and keeps the board. -/
theorem State.openPage_changes (s : State) (p : PageNo) : ∃ w, s.openPage p =
    { s with window := w, pages :=
      { s.pages with current := some p, cursor := p, nextSeq := s.pages.nextSeq + 1, sealTimer := 0 } } ∧
    s.window.keepsBoard w := by
  have h1 := entryBase_le p
  have h2 := pageBase_le p
  unfold State.openPage
  dsimp only
  generalize hw : Memory.writeBytes (Memory.clear _ _ _) (pageBase p) s.openHeader = w
  refine ⟨w, rfl, ?_⟩
  rw [← hw]
  exact Memory.keepsBoard_trans
    (Memory.keepsBoard_trans (Memory.keepsBoard_writeBytes _ _ (by omega)) (Memory.keepsBoard_clear _ _ (by omega)))
    (Memory.keepsBoard_writeBytes _ _ (by omega))

/-- A seal changes the window, the Page Writer and the SEALED flag. -/
theorem State.sealPage_changes (s : State) (cause : SealCause) : ∃ w p f, s.sealPage cause =
    { s with window := w, pages := p, alerts := { s.alerts with flags := f } } ∧
    s.window.keepsBoard w ∧ sealedPerhaps s.alerts.flags f := by
  unfold State.sealPage
  split
  · exact ⟨s.window, s.pages, s.alerts.flags, rfl, Memory.keepsBoard_refl _, .inl rfl⟩
  · rename_i p _
    have h1 := entryBase_le p
    have h2 := pageBase_le p
    dsimp only
    generalize hw : Memory.write _ (entryBase p) pageSealed = w
    generalize s.pageSeq p = q
    refine ⟨w, { s.pages with current := none, sealTimer := 0, sealed := s.pages.sealed + 1, lastSealed := q },
      s.alerts.flags ||| 0x01, by simp only [State.raise, Flag.mask], ?_, .inr rfl⟩
    rw [← hw]
    exact Memory.keepsBoard_trans (Memory.keepsBoard_trans (Memory.keepsBoard_trans
      (Memory.keepsBoard_write _ _ (by omega)) (Memory.keepsBoard_writeBytes _ _ (by omega)))
      (Memory.keepsBoard_writeBytes _ _ (by omega))) (Memory.keepsBoard_write _ _ (by omega))

/-- `t` is `s` but for the Record Unit, the Page Writer, the window from 0340h on and SEALED. -/
def State.recordPath (s t : State) : Prop := ∃ r w p f,
  t = { s with records := r, window := w, pages := p, alerts := { s.alerts with flags := f } } ∧
  s.window.keepsBoard w ∧ sealedPerhaps s.alerts.flags f

/-- A state is on its own record path. -/
theorem State.recordPath_refl (s : State) : s.recordPath s :=
  ⟨s.records, s.window, s.pages, s.alerts.flags, rfl, Memory.keepsBoard_refl _, .inl rfl⟩

/-- Record paths compose. -/
theorem State.recordPath_trans {s t u : State} (h : s.recordPath t) (k : t.recordPath u) : s.recordPath u := by
  obtain ⟨r, w, p, f, rfl, hw, hf⟩ := h
  obtain ⟨r', w', p', f', rfl, hw', hf'⟩ := k
  exact ⟨r', w', p', f', rfl, Memory.keepsBoard_trans hw hw', sealedPerhaps_trans hf hf'⟩

/-- A seal is on the record path. -/
theorem State.sealPage_path (s : State) (cause : SealCause) : s.recordPath (s.sealPage cause) := by
  obtain ⟨w, p, f, h, hw, hf⟩ := s.sealPage_changes cause
  exact ⟨s.records, w, p, f, h, hw, hf⟩

/-- Opening a page is on the record path. -/
theorem State.openPage_path (s : State) (p : PageNo) : s.recordPath (s.openPage p) := by
  obtain ⟨w, h, hk⟩ := s.openPage_changes p
  exact ⟨s.records, w, _, s.alerts.flags, h, hk, .inl rfl⟩

/-- Placing a record and removing it from the queue is on the record path. -/
theorem State.takeHead_path (s : State) (p : PageNo) (r : Record) : s.recordPath (s.takeHead p r) := by
  have h : s.recordPath (s.placeRecord p r).removeHead := by
    obtain ⟨w, hw, hk⟩ := s.placeRecord_changes p r
    rw [hw]
    obtain ⟨q, hq⟩ := (s.setWindow w).removeHead_changes
    exact ⟨q, w, s.pages, s.alerts.flags, hq, hk, .inl rfl⟩
  unfold State.takeHead
  generalize (s.placeRecord p r).removeHead = t at h
  dsimp only
  split
  · exact State.recordPath_trans h (t.sealPage_path _)
  · exact h

/-- The Page Writer's attempt is on the record path. -/
theorem State.pumpLoop_path (n : Nat) (s : State) : s.recordPath (s.pumpLoop n) := by
  induction n generalizing s with
  | zero => exact s.recordPath_refl
  | succ n ih =>
    unfold State.pumpLoop
    split
    · exact s.recordPath_refl
    · split
      · exact State.recordPath_trans (s.takeHead_path _ _) (ih _)
      · split
        · exact State.recordPath_trans (s.openPage_path _) (ih _)
        · exact s.recordPath_refl

/-- The Page Writer's attempt is on the record path. -/
theorem State.pump_path (s : State) : s.recordPath s.pump := s.pumpLoop_path _

/-- A seal and the attempt after it are on the record path. -/
theorem State.closePage_path (s : State) (cause : SealCause) : s.recordPath (s.closePage cause) :=
  State.recordPath_trans (s.sealPage_path cause) (State.pump_path _)

/-- With no record waiting the attempt does nothing (R97). -/
theorem State.pump_of_empty {s : State} (h : s.records.queue = []) : s.pump = s := by
  unfold State.pump State.pumpLoop
  simp [h]

/-- With no page held and none found the attempt does nothing (R97). -/
theorem State.pump_of_noPage {s : State} (h : s.pages.current = none) (hs : s.searchPage = none) : s.pump = s := by
  unfold State.pump State.pumpLoop
  cases hq : s.records.queue with
  | nil => rfl
  | cons r rest => simp [h, hs]

/-! ## Generation -/

/-- The flags a record calls for are the only thing its judgement changes (R86). -/
theorem State.raiseFor_eq (s : State) (r : Record) : s.raiseFor r =
    { s with alerts := { s.alerts with flags :=
      s.alerts.flags ||| (if s.alerts.level.toNat < r.cls.val then 0x02 else 0)
        ||| (if r.kind = .chainFault ∨ r.kind = .chainLost then 0x08 else 0) } } := by
  unfold State.raiseFor
  by_cases h : s.alerts.level.toNat < r.cls.val <;> cases hk : r.kind <;> simp [h, State.raise, Flag.mask]

/-- A generation changes the Record Unit, the Page Writer, the window from 0340h on and flags. -/
theorem State.generate_changes (s : State) (r : Record) : ∃ q w p f, s.generate r =
    { s with records := q, window := w, pages := p, alerts := { s.alerts with flags := f } } ∧
    s.window.keepsBoard w := by
  unfold State.generate
  dsimp only
  rw [State.raiseFor_eq]
  split
  · obtain ⟨q, w, p, f, h, hw, -⟩ := State.pump_path (State.appendRecord
      { (s.setRecords { s.records with generated := s.records.generated + 1 }) with
        alerts := { s.alerts with flags := s.alerts.flags ||| (if s.alerts.level.toNat < r.cls.val then 0x02 else 0)
          ||| (if r.kind = .chainFault ∨ r.kind = .chainLost then 0x08 else 0) } } r)
    exact ⟨q, w, p, f, h, hw⟩
  · obtain ⟨q, f, h, -⟩ := State.dropRecord_changes
      { (s.setRecords { s.records with generated := s.records.generated + 1 }) with
        alerts := { s.alerts with flags := s.alerts.flags ||| (if s.alerts.level.toNat < r.cls.val then 0x02 else 0)
          ||| (if r.kind = .chainFault ∨ r.kind = .chainLost then 0x08 else 0) } }
    exact ⟨q, s.window, s.pages, f, h, Memory.keepsBoard_refl _⟩

/-! ## What the record path reads -/

/-- `o` with the items of `s` that the record path reads and writes: run items, records, pages, window, alerts. -/
def State.onto (s o : State) : State :=
  { o with run := s.run, records := s.records, pages := s.pages, window := s.window, alerts := s.alerts }

/-- A state onto itself. -/
theorem State.onto_self (s : State) : s.onto s = s := rfl

/-- The flags of a generation do not depend on the rest of the part. -/
theorem State.raiseFor_onto (s o : State) (r : Record) : (s.onto o).raiseFor r = (s.raiseFor r).onto o := by
  simp only [State.raiseFor_eq]
  rfl

/-- A drop does not depend on the rest of the part. -/
theorem State.dropRecord_onto (s o : State) : (s.onto o).dropRecord = s.dropRecord.onto o := by
  unfold State.dropRecord
  by_cases h : s.records.overrun = 0
  · have h' : (s.onto o).records.overrun = 0 := h
    rw [if_pos h, if_pos h']
    rfl
  · have h' : (s.onto o).records.overrun ≠ 0 := h
    rw [if_neg h, if_neg h']
    rfl

/-- The OVERRUN record of an episode does not depend on the rest of the part. -/
theorem State.placeOverrun_onto (s o : State) : (s.onto o).placeOverrun = s.placeOverrun.onto o := by
  unfold State.placeOverrun
  by_cases h : s.records.overrun = 0
  · have h' : (s.onto o).records.overrun = 0 := h
    rw [if_pos h, if_pos h']
  · have h' : ¬ (s.onto o).records.overrun = 0 := h
    rw [if_neg h, if_neg h']
    rfl

/-- The removal of the head does not depend on the rest of the part. -/
theorem State.removeHead_onto (s o : State) : (s.onto o).removeHead = s.removeHead.onto o :=
  State.placeOverrun_onto (s.setRecords
    { s.records with queue := s.records.queue.tail, written := s.records.written + 1 }) o

/-- A seal does not depend on the rest of the part. -/
theorem State.sealPage_onto (s o : State) (cause : SealCause) :
    (s.onto o).sealPage cause = (s.sealPage cause).onto o := by
  unfold State.sealPage
  have e : (s.onto o).pages.current = s.pages.current := rfl
  rw [e]
  cases s.pages.current <;> rfl

/-- Placing a record does not depend on the rest of the part. -/
theorem State.placeRecord_onto (s o : State) (p : PageNo) (r : Record) :
    (s.onto o).placeRecord p r = (s.placeRecord p r).onto o := by
  have e1 : (s.onto o).recordCount p = s.recordCount p := rfl
  have e2 : (s.onto o).window = s.window := rfl
  unfold State.placeRecord
  dsimp only
  rw [e1, e2]
  generalize Memory.write _ (entryBase p + 1) _ = w
  rfl

/-- Opening a page does not depend on the rest of the part. -/
theorem State.openPage_onto (s o : State) (p : PageNo) : (s.onto o).openPage p = (s.openPage p).onto o := by
  have e1 : (s.onto o).openHeader = s.openHeader := rfl
  have e2 : (s.onto o).window = s.window := rfl
  have e3 : (s.onto o).pages = s.pages := rfl
  unfold State.openPage
  dsimp only
  rw [e1, e2, e3]
  generalize Memory.writeBytes (Memory.clear _ _ _) (pageBase p) s.openHeader = w
  rfl

/-- Taking the head into a page does not depend on the rest of the part. -/
theorem State.takeHead_onto (s o : State) (p : PageNo) (r : Record) :
    (s.onto o).takeHead p r = (s.takeHead p r).onto o := by
  unfold State.takeHead
  dsimp only
  rw [State.placeRecord_onto, State.removeHead_onto]
  generalize (s.placeRecord p r).removeHead = t
  have e : (t.onto o).recordCount p = t.recordCount p := rfl
  rw [e, State.sealPage_onto]
  split <;> rfl

/-- The Page Writer's attempt does not depend on the rest of the part. -/
theorem State.pumpLoop_onto (n : Nat) (s o : State) : (s.onto o).pumpLoop n = (s.pumpLoop n).onto o := by
  induction n generalizing s with
  | zero => rfl
  | succ n ih =>
    unfold State.pumpLoop
    have e1 : (s.onto o).records.queue = s.records.queue := rfl
    have e2 : (s.onto o).pages.current = s.pages.current := rfl
    have e3 : (s.onto o).searchPage = s.searchPage := rfl
    rw [e1, e2, e3]
    cases s.records.queue with
    | nil => rfl
    | cons r rest =>
      cases s.pages.current with
      | some p => exact (congrArg (State.pumpLoop n) (s.takeHead_onto o p r)).trans (ih (s.takeHead p r))
      | none =>
        cases s.searchPage with
        | some p => exact (congrArg (State.pumpLoop n) (s.openPage_onto o p)).trans (ih (s.openPage p))
        | none => rfl

/-- A generation reads and writes the record path's items alone: chains, groups, images, requests and the port may be
replaced before it or after it. -/
theorem State.generate_onto (s o : State) (r : Record) : (s.onto o).generate r = (s.generate r).onto o := by
  have e : ((s.onto o).setRecords { s.records with generated := s.records.generated + 1 }).raiseFor r =
      ((s.setRecords { s.records with generated := s.records.generated + 1 }).raiseFor r).onto o :=
    State.raiseFor_onto (s.setRecords { s.records with generated := s.records.generated + 1 }) o r
  unfold State.generate
  have e1 : (s.onto o).records = s.records := rfl
  dsimp only
  rw [e1, e]
  by_cases h : s.records.queue.length < tripQueueSize
  · rw [if_pos h, if_pos h]
    exact State.pumpLoop_onto _ (State.appendRecord _ r) o
  · rw [if_neg h, if_neg h]
    exact State.dropRecord_onto _ o

/-! ## The Page Writer's frame work -/

/-- The advance of the seal timer is on the record path. -/
theorem State.advanceSealTimer_path (s : State) : s.recordPath s.advanceSealTimer := by
  have h : s.recordPath (s.setPages { s.pages with sealTimer := s.pages.sealTimer + 1 }) :=
    ⟨s.records, s.window, _, s.alerts.flags, rfl, Memory.keepsBoard_refl _, .inl rfl⟩
  unfold State.advanceSealTimer
  dsimp only
  split
  · split
    · exact State.recordPath_trans h (State.closePage_path _ _)
    · exact h
  · exact h

/-- The Page Writer's work at a frame expiry is on the record path, and is then no more outstanding. -/
theorem State.pageWriterWork_path (s : State) :
    (s.setFrame { s.frame with pageWork := false }).recordPath s.pageWriterWork := by
  unfold State.pageWriterWork
  dsimp only
  split
  · exact State.advanceSealTimer_path _
  · exact State.pump_path _

/-- With none outstanding there is no Page Writer's work to finish. -/
theorem State.finishPageWork_of_done {s : State} (h : s.frame.pageWork = false) : s.finishPageWork = s := by
  simp [State.finishPageWork, h]

/-- After it, none of the Page Writer's work is outstanding, and all else is on the record path. -/
theorem State.finishPageWork_path (s : State) :
    (s.setFrame { s.frame with pageWork := false }).recordPath s.finishPageWork := by
  unfold State.finishPageWork
  split
  · exact s.pageWriterWork_path
  · rename_i h
    have e : s.setFrame { s.frame with pageWork := false } = s := by
      cases hf : s.frame
      simp only [hf] at h
      simp only [Bool.not_eq_true] at h
      subst h
      unfold State.setFrame
      rw [← hf]
    rw [e]
    exact s.recordPath_refl

/-! ## The drain's end -/

/-- The drain-end test changes at most the run state, the frame timer, the outstanding frame work, and what a seal does. -/
theorem State.drainTest_changes (s : State) : ∃ x ft w r m p f, s.drainTest =
    { s with run := { s.run with state := x, frameTimer := ft }, frame := w, records := r, window := m, pages := p
             alerts := { s.alerts with flags := f } } ∧
    s.window.keepsBoard m ∧ (s.run.state ≠ .draining → s.drainTest = s) := by
  unfold State.drainTest
  split
  · rename_i h
    simp only [Bool.and_eq_true, decide_eq_true_eq] at h
    obtain ⟨r, w, p, f, hc, hw, -⟩ := State.recordPath_trans s.finishPageWork_path (State.closePage_path _ .stop)
    refine ⟨.idle, none, FrameWork.empty, r, w, p, f ||| Flag.mask .stopped, ?_, hw, fun n => absurd h.1.1 n⟩
    unfold State.drainEnd
    rw [hc]
    rfl
  · exact ⟨s.run.state, s.run.frameTimer, s.frame, s.records, s.window, s.pages, s.alerts.flags, rfl,
      Memory.keepsBoard_refl _, fun _ => rfl⟩

end Sys2Proof.Machine
end

