-- ==== Sys2Proof/Laws/Requests.lean ====
section
/-! SUPPORT. What an answer and a take change, what a slot shows after an answer, and small facts of the queue's clock:
orders, bits, frame work. -/

namespace Sys2Proof.Machine

open Sys2Proof

/-! ## Answers -/

/-- A slot leaving its list changes the chains alone. -/
theorem State.unlist_changes (s : State) (k : SlotNo) : ∃ ch, s.unlist k = { s with chains := ch } := by
  unfold State.unlist
  split
  · exact ⟨_, rfl⟩
  · exact ⟨_, rfl⟩

/-- An answer changes chains, window, taken set and flags alone (R119). -/
theorem State.answer_changes (s : State) (k : SlotNo) (a : Answer) : ∃ ch, s.answer k a =
    { s with chains := ch, window := s.answeredWindow k a
             requests := { s.requests with taken := s.takenBut k }
             alerts := { s.alerts with flags := s.alerts.flags ||| 0x04 } } := by
  obtain ⟨ch, h⟩ := s.unlist_changes k
  refine ⟨ch, ?_⟩
  unfold State.answer
  simp only [h]
  generalize s.answeredWindow k a = w
  rfl

/-- The chains after an answer: the slot is off the list of the chain its request names, all else stands. -/
theorem State.chain_answer (s : State) (k : SlotNo) (a : Answer) (d : ChainNo) : (s.answer k a).chain d =
    { s.chain d with waiting :=
        if (s.heldOf k).map Request.chain = some d then (s.chain d).waiting.remove k else (s.chain d).waiting } := by
  have key : (s.answer k a).chain d = (s.unlist k).chain d := rfl
  rw [key]
  unfold State.unlist
  split
  · rename_i r h
    rw [State.chain_modChain, h]
    by_cases e : d = r.chain
    · subst e; simp
    · simp [e, Ne.symm e]
  · rename_i h
    simp [h]

/-- Answers given one after another change chains, window, taken set and flags alone. -/
theorem State.answerAll_changes (s : State) (ks : List SlotNo) (a : Answer) : ∃ ch w l f, s.answerAll ks a =
    { s with chains := ch, window := w, requests := { s.requests with taken := l }
             alerts := { s.alerts with flags := f } } := by
  unfold State.answerAll
  induction ks generalizing s with
  | nil => exact ⟨s.chains, s.window, s.requests.taken, s.alerts.flags, rfl⟩
  | cons k ks ih =>
    obtain ⟨ch, h⟩ := s.answer_changes k a
    obtain ⟨ch', w', l', f', h'⟩ := ih (s.answer k a)
    refine ⟨ch', w', l', f', ?_⟩
    rw [List.foldl_cons, h', h]

/-- The answered window keeps the canonical form. -/
theorem State.answeredWindow_wf (s : State) (k : SlotNo) (a : Answer) (h : s.window.wf = true) :
    (s.answeredWindow k a).wf = true :=
  Memory.wf_write (Memory.wf_writeBytes h _ _) _ _

/-- Reading the answered window: the owner code, the answer bytes, and every other byte as it stood. -/
theorem State.answeredWindow_read (s : State) (k : SlotNo) (a : Answer) (h : s.window.wf = true) (x : Nat) :
    (s.answeredWindow k a).read x =
      if x = slotBase k then slotAnswered
      else if slotBase k + 16 ≤ x ∧ x < slotBase k + 48 then (s.answerBytes a).getD (x - (slotBase k + 16)) 0
      else s.window.read x := by
  unfold State.answeredWindow
  rw [Memory.read_write (Memory.wf_writeBytes h _ _), Memory.read_writeBytes h, State.answerBytes_length]

/-- The payload bytes, one by one. -/
theorem payloadBytes_getD (bs : List Byte) (i : Nat) (h : i < 16) : (payloadBytes bs).getD i 0 = bs.getD i 0 := by
  unfold payloadBytes
  simp only [List.getD_eq_getElem?_getD, List.getElem?_take, h, ↓reduceIte, List.getElem?_append]
  by_cases hb : i < bs.length
  · simp [hb]
  · simp only [hb, ↓reduceIte]
    rw [List.getElem?_eq_none (by omega : bs.length ≤ i)]
    rw [List.getElem?_replicate]
    split <;> rfl

/-! ## Commands one after another -/

/-- No command. -/
@[simp] theorem State.after_nil (s : State) : s.after [] = s := rfl

/-- A command that completes, then the others. -/
theorem State.after_cons {s t : State} {c : Instr} (h : exec c s = .next t) (cs : List Instr) :
    s.after (c :: cs) = t.after cs := by
  unfold State.after
  rw [List.foldl_cons, h]

/-- Commands in two runs. -/
theorem State.after_append (s : State) (cs ds : List Instr) : s.after (cs ++ ds) = (s.after cs).after ds :=
  List.foldl_append

/-! ## Takes -/

/-- The slots still to visit begin, past those that do not read POSTED, with the next take. -/
theorem State.toPosted_of_nextTake {s : State} {k : SlotNo} {rest : List SlotNo} (h : s.nextTake k rest) :
    s.toPosted = k :: rest := by
  obtain ⟨⟨passed, hs, hp⟩, hk, -⟩ := h
  unfold State.toPosted
  rw [hs]
  clear hs
  induction passed with
  | nil => simp [hk]
  | cons j js ih =>
    have hj := hp j (List.mem_cons_self)
    rw [List.cons_append, List.dropWhile_cons_of_pos (by simpa using hj)]
    exact ih fun i hi => hp i (List.mem_cons_of_mem _ hi)

/-- A take of the kind the command names. -/
theorem State.takeNext_of_nextTake {s : State} {k : SlotNo} {rest : List SlotNo} {kind : Option Kind}
    (h : s.nextTake k rest) (hk : kindOf (s.readRequest k).kind = kind) :
    s.takeNext kind = (s.setFrame { s.frame with sweep := rest }).takeSlot k := by
  unfold State.takeNext
  rw [State.toPosted_of_nextTake h]
  have room : s.hasRoom = true := by
    unfold State.hasRoom takenSetSize
    exact decide_eq_true h.2.2
  simp [room, hk]

/-- A slot that reads POSTED is none of those that read TAKEN. -/
theorem State.posted_not_taken {s : State} {k : SlotNo} (h : s.slotOwner k = slotPosted)
    (ht : ∀ x ∈ s.requests.taken, s.slotOwner x.slot = slotTaken) : ∀ x ∈ s.requests.taken, x.slot ≠ k := by
  intro x hx e
  have := ht x hx
  rw [e, h] at this
  exact absurd this (by decide)

/-- The request held for a slot just taken. -/
theorem State.heldOf_beginTake {s : State} {k : SlotNo} (h : ∀ x ∈ s.requests.taken, x.slot ≠ k) :
    (s.beginTake k).heldOf k = some (s.readRequest k) := by
  unfold State.heldOf State.beginTake
  rw [List.find?_append]
  have : s.requests.taken.find? (fun x => x.slot == k) = none := by
    simpa [List.find?_eq_none] using h
  simp [this]

/-- A slot taken and answered leaves the taken set as it was. -/
theorem State.takenBut_beginTake {s : State} {k : SlotNo} (h : ∀ x ∈ s.requests.taken, x.slot ≠ k) :
    (s.beginTake k).takenBut k = s.requests.taken := by
  unfold State.takenBut State.beginTake
  rw [List.filter_append]
  have : s.requests.taken.filter (fun x => x.slot != k) = s.requests.taken := by
    simpa [List.filter_eq_self] using h
  simp [this]

/-! ## Bits, orders, frame work -/

/-- A bit of sixteen bits from a predicate. -/
theorem bitsOf_getLsbD (width : Nat) (f : Nat → Bool) (i : Nat) (h : i < 16) :
    (bitsOf width f).getLsbD i = (decide (i < width) && f i) := by
  have key : ∀ (n : Nat) (v : Half),
      ((List.range n).foldl (fun v k => if f k then v ||| (1#16 <<< k) else v) v).getLsbD i
        = (v.getLsbD i || (decide (i < n) && f i)) := by
    intro n
    induction n with
    | zero => intro v; simp
    | succ n ih =>
      intro v
      rw [List.range_succ, List.foldl_append, List.foldl_cons, List.foldl_nil]
      by_cases hf : f n = true
      · simp only [hf, ↓reduceIte, BitVec.getLsbD_or, ih]
        by_cases e : i = n
        · subst e; simp [hf, h]
        · have : (1#16 <<< n).getLsbD i = false := by
            simp only [BitVec.getLsbD_shiftLeft, BitVec.getLsbD_one]
            by_cases l : i < n
            · simp [l]
            · have : i - n ≠ 0 := by omega
              simp [this]
          have less : (decide (i < n + 1)) = decide (i < n) := by
            apply decide_eq_decide.mpr; omega
          rw [this, less, Bool.or_false]
      · simp only [hf, Bool.false_eq_true, ↓reduceIte, ih]
        by_cases e : i = n
        · subst e; simp [hf]
        · have : (decide (i < n + 1)) = decide (i < n) := by
            apply decide_eq_decide.mpr; omega
          rw [this]
  unfold bitsOf
  rw [key]
  simp

/-- The k-th order of a list is one of its orders. -/
theorem arrange_perm {α : Type} (k : Nat) (l : List α) : (arrange k l).Perm l := by
  induction l generalizing k with
  | nil => exact List.Perm.refl _
  | cons x xs ih =>
    unfold arrange
    refine List.perm_middle.trans (List.Perm.cons x ?_)
    rw [List.take_append_drop]
    exact ih _

/-- A block order is well formed exactly when no block stands in it twice. -/
theorem blocksOnce_iff (l : List FrameBlock) : blocksOnce l = true ↔ l.Nodup := by
  induction l with
  | nil => simp [blocksOnce]
  | cons b rest ih => simp [blocksOnce, ih, List.nodup_cons]

/-- With no frame work outstanding there is none to finish. -/
theorem State.finishFrame_of_empty {s : State} (h : s.frame = FrameWork.empty) : s.finishFrame = s := by
  have e : s.setFrame FrameWork.empty = s := by
    rw [← h]; rfl
  unfold State.finishFrame leftoverOrder
  simp only [List.foldl_cons, List.foldl_nil, State.blockWork, State.takeExpiries, State.takeCoolDowns,
    State.takePageWork, State.takeSweep, State.setFrame_frame, h, FrameWork.empty, List.foldl_nil,
    State.sweepOver, Bool.false_eq_true, ↓reduceIte]
  exact e

end Sys2Proof.Machine
end

