-- ==== Sys2Proof/Tests/Slice0.lean ====
section
/-! SUPPORT. The model's own tests: ill-formed terms, one or two small steps of each command, and for every statement with
hypotheses a state and operands that meet them all. -/

namespace Sys2Proof.Tests

set_option Elab.async false
set_option synthInstance.maxSize 512

open Sys2Proof Sys2Proof.Machine

/-! ## Helpers -/

/-- A test of the next state; false of a fault or a refusal. -/
def after (c : Instr) (s : State) (p : State → Bool) : Bool :=
  match exec c s with
  | .next t => p t
  | .fault _ => false
  | .refused _ => false

/-- A fault by name. -/
def faults (c : Instr) (s : State) : Bool :=
  match exec c s with
  | .next _ => false
  | .fault f => f == .notACommand
  | .refused _ => false

/-- The part in IDLE, nothing written. -/
def up : State := { State.reset with run := { State.reset.run with state := .idle, nresetLow := false } }

/-- The part in INIT, its zeroing in progress. -/
def zeroing : State :=
  { State.reset with run := { State.reset.run with nresetLow := false, zeroing := some 1 } }

/-- A geometry: S 4, P 3, F 4, W 2, shift code 0, seal delay 3. -/
def shape : Geometry := { slots := 4, pages := 3, frameCode := 4, warm := 2, shiftCode := 0, sealDelay := 3 }

/-- The part RUNNING with that geometry, no chain enabled. -/
def live : State :=
  { up with
    run := { up.run with state := .running, frameTimer := some 8000, geometry := some shape, stamp := 7 }
    requests := { taken := [], cursor := 3 } }

/-- The part DRAINING. -/
def draining : State := { live with run := { live.run with state := .draining } }

/-- A chain put in a state. -/
def put (c : ChainNo) (cs : ChainState) (s : State) : State :=
  s.modChain c fun r => { r with state := cs, settle := if cs = .settling then some 1 else none
                                 defn := { r.defn with enabled := true, period := 2, coolDown := 2 }, periodCounter := 1 }

/-- A slot posted, and the sweep that has still to visit it and slot 3. -/
def posted (k : SlotNo) (kind : Byte) (params : List Byte) (s : State) : State :=
  { s with window := s.window.writeBytes (slotBase k) (1 :: kind :: 0x77 :: 0 :: params)
           frame := { s.frame with sweep := [k, 3] } }

/-- A slot held TAKEN with a request. -/
def held (k : SlotNo) (kind : Byte) (params : List Byte) (s : State) : State :=
  { s with window := s.window.write (slotBase k) slotTaken
           requests := { s.requests with
             taken := s.requests.taken ++ [{ slot := k, request := { kind := kind, tag := 0, params := params } }] } }

/-- A chain's list. -/
def list (c : ChainNo) (w : WaitList) (s : State) : State := s.modChain c fun r => { r with waiting := w }

/-- A read of eight points in progress, with the bits received so far. -/
def reading (c : ChainNo) (attached : List SlotNo) (bits : List Bool) (s : State) : State :=
  { put c .reading s with
    read := some { chain := c, length := 8, bitTime := 8, attached := attached, received := bits
                   loading := bits.isEmpty, clockHigh := false, elapsed := 8 * (bits.length + 1) } }

/-- Eight points and the check octet 96h. -/
def goodBits : List Bool :=
  [true, false, true, false, false, false, false, false] ++ [false, true, true, false, true, false, false, true]

/-- Eight points and an octet with one bit wrong. -/
def badBits : List Bool :=
  [true, false, true, false, false, false, false, false] ++ [true, true, true, false, true, false, false, true]

/-- A record. -/
def sample : Record :=
  { seq := 0, kind := .step, cls := 2, chain := some 0, group := some 1, before := 1, after := 2, detail := 3, stamp := 7 }

/-- A full trip queue. -/
def fullQueue : List Record := List.replicate 12 sample

/-- A page held with three records. -/
def paged (s : State) : State :=
  { s with pages := { s.pages with current := some 1, cursor := 1, nextSeq := 6 }
           window := (s.window.writeBytes (entryBase 1) [2, 3, 5, 0]).writeBytes (pageBase 1) [5, 0, 0, 0, 0, 0, 3] }

/-- Bytes of the header host fields. -/
def header (bytes : List Byte) (s : State) : State := { s with window := Memory.writeBytes [] 0 bytes }

/-! ## Terms that are no command of the table -/

theorem test_wf_order_twice : (Instr.frameExpiry [.pageWriter, .requestEngine, .pageWriter]).wf = false := by decide
theorem test_wf_ignored_flags : (Instr.registerWriteIgnored 3 0).wf = false := by decide
theorem test_wf_ignored_enable : (Instr.registerWriteIgnored 4 0).wf = false := by decide
theorem test_wf_ignored_start : (Instr.registerWriteIgnored 2 0x7701).wf = false := by decide
theorem test_wf_ignored_stop : (Instr.registerWriteIgnored 2 0x0002).wf = false := by decide
theorem test_wf_ignored_soft_reset : (Instr.registerWriteIgnored 2 0x00A5).wf = false := by decide
theorem test_wf_unknown_code : (Instr.registerWriteIgnored 2 0x0103).wf = true := by decide
theorem test_wf_register_five : (Instr.registerWriteIgnored 5 0x0001).wf = true := by decide
theorem test_ill_formed_order_faults : faults (.frameExpiry [.pageWriter, .pageWriter]) live = true := by decide +kernel
theorem test_ill_formed_ignored_faults : faults (.registerWriteIgnored 3 0) live = true := by decide +kernel

/-! ## No word spells a command -/

theorem test_decode_none : decodeTableWord 8 1 = none := by decide
theorem test_withFetchWord_stands : (live.withFetchWord 8 1).pending = [] := by decide +kernel

/-! ## One step of each command -/

theorem test_hardReset : after .hardReset (put 2 .warm live) (fun t =>
    t.run.state == .init && t.run.nresetLow && !t.excitation 2 && t.run.geometry == none) = true := by decide +kernel

theorem test_nresetRise : after .nresetRise State.reset (fun t =>
    t.run.state == .init && !t.run.nresetLow && t.run.zeroing.isSome && t.fresh == 1) = true := by decide +kernel

theorem test_initEnd : after .initEnd { zeroing with window := [(3, 5)] } (fun t =>
    t.run.state == .idle && t.window.read 3 == 0) = true := by decide +kernel

theorem test_start_accepted : after (.start 0x77) (header [4, 3, 4, 2, 0, 3] up) (fun t =>
    t.run.state == .running && t.run.frameTimer == some 8000 && t.run.geometry == some shape &&
    t.requests.cursor == 3 && t.pages.cursor == 2 && t.windowByte 0x10 == 0x46) = true := by decide +kernel

theorem test_start_refused : after (.start 0) (header [4, 1, 4, 2, 0, 3] up) (fun t =>
    t.run.state == .idle && t.run.refusal == 2 && t.flagged .board && t.status == 0x0009) = true := by decide +kernel

theorem test_stop_enters_draining : after (.stop 0) (reading 1 [] [] (put 0 .warm live)) (fun t =>
    t.run.state == .draining && (t.chain 0).state == .cold && (t.chain 1).state == .reading &&
    t.read.isSome) = true := by decide +kernel

theorem test_stop_twice : after (.stop 0) { reading 1 [] [] draining with records := { RecordUnit.reset with
    queue := [sample, sample], generated := 2 } } (fun t =>
    t.run.state == .idle && t.records.lost == 2 && t.records.queue == [] && t.read == none &&
    (t.chain 1).state == .cold && t.flagged .stopped) = true := by decide +kernel

theorem test_softReset : after (.softReset 0) (held 2 2 [0, 1] (paged live)) (fun t =>
    t.run.state == .idle && t.slotOwner 2 == slotAnswered && t.window.read (slotBase 2 + 16) == 9 &&
    t.pageOwner 1 == pageFree && t.run.geometry == some shape) = true := by decide +kernel

theorem test_irqFlagsWrite : after (.irqFlagsWrite 0xFF02) ((live.raise .trip).raise .board) (fun t =>
    t.alerts.flags == 0x40 && t.port.phase == .registerWrite 4 none) = true := by decide +kernel

theorem test_irqEnableWrite : after (.irqEnableWrite 0xFFFF) (live.raise .trip) (fun t =>
    t.register 4 == 0x037F && t.nirqLow) = true := by decide +kernel

theorem test_registerWriteIgnored : after (.registerWriteIgnored 255 9) live (fun t =>
    t.port.phase == .registerWrite 0 none) = true := by decide +kernel

theorem test_windowWrite_wraps : after (.windowWrite (some 0xFFFF) 5) live (fun t =>
    t.window.read 0x3FFF == 5 && t.port.phase == .windowWrite 0) = true := by decide +kernel

theorem test_windowWrite_filtered : after (.windowWrite (some 0x40) 3) live (fun t =>
    t.window.read 0x40 == 0) = true := by decide +kernel

theorem test_windowRead_captures : after (.windowRead (some 0x10)) { live with run := { live.run with
    signature := 0x34324746 } } (fun t =>
    t.port.sdo == some 0x46 && t.port.headerCapture.isSome) = true := by decide +kernel

theorem test_windowRead_init : after (.windowRead (some 0)) { zeroing with window := [(0, 9)] } (fun t =>
    t.port.sdo == some 0) = true := by decide +kernel

theorem test_frameExpiry : after (.frameExpiry []) (put 3 .cold live) (fun t =>
    t.run.stamp == 8 && t.frame.expiries == [3] && (t.chain 3).periodCounter == 2 &&
    t.frame.sweep == [0, 1, 2, 3]) = true := by decide +kernel

theorem test_frameExpiry_drain : after (.frameExpiry [.pageWriter]) draining (fun t =>
    t.run.state == .idle && t.run.stamp == 8 && t.flagged .stopped) = true := by decide +kernel

theorem test_periodExpiry_grants : after (.periodExpiry 3) { put 3 .cold live with
    frame := { FrameWork.empty with expiries := [3] } } (fun t =>
    t.due == [3] && (t.chain 3).state == .settling && (t.chain 3).settle == some 80) = true := by decide +kernel

theorem test_periodExpiry_late : after (.periodExpiry 3) { (put 3 .cold live) with
    due := [3]
    frame := { FrameWork.empty with expiries := [3] } } (fun t =>
    t.due == [3] && (t.chain 3).late == 1) = true := by decide +kernel

theorem test_idleCoolDown_counts : after (.idleCoolDown 3) { (put 3 .warm live) with
    lru := [3]
    frame := { FrameWork.empty with coolDowns := [3] } } (fun t =>
    (t.chain 3).idle == 1 && (t.chain 3).state == .warm) = true := by decide +kernel

theorem test_idleCoolDown_cools : after (.idleCoolDown 3) { (put 3 .warm live).modChain 3 (fun r => { r with idle := 1 })
    with lru := [3], frame := { FrameWork.empty with coolDowns := [3] } } (fun t =>
    (t.chain 3).state == .cold && t.lru == []) = true := by decide +kernel

theorem test_timerSeal : after .timerSeal { paged live with
    frame := { FrameWork.empty with pageWork := true }
    pages := { (paged live).pages with sealTimer := 2 } } (fun t =>
    t.pages.current == none && t.pageOwner 1 == pageSealed && t.window.read (pageBase 1 + 7) == 2 &&
    t.pages.lastSealed == 5 && t.flagged .sealed) = true := by decide +kernel

theorem test_settleCompletion : after (.settleCompletion 3) { put 3 .settling live with due := [3] } (fun t =>
    (t.chain 3).state == .reading && t.due == [] && t.lru == [] && t.cld) = true := by decide +kernel

theorem test_settleCompletion_abandoned : after (.settleCompletion 3)
    ((put 3 .settling live).modChain 3 fun r => { r with stale := true }) (fun t =>
    (t.chain 3).state == .settling && !(t.chain 3).stale) = true := by decide +kernel

theorem test_excitationGrant_victim : after .excitationGrant
    { put 4 .cold (put 2 .warm (put 1 .warm live)) with due := [4], lru := [2, 1] } (fun t =>
    (t.chain 2).state == .cold && (t.chain 1).state == .warm && (t.chain 4).state == .settling) = true := by
  decide +kernel

theorem test_readStart : after .readStart { put 1 .warm live with due := [1], lru := [1] } (fun t =>
    (t.chain 1).state == .reading && t.read.map ReadInProgress.bitTime == some 8) = true := by decide +kernel

theorem test_readCompletion_good : after .readCompletion (reading 1 [] goodBits live) (fun t =>
    (t.chain 1).reads == 1 && (t.chain 1).lastRead == 7 && (t.image 1).primed &&
    ((t.image 1).point 2).filtered && (t.chain 1).state == .warm && t.lru == [1]) = true := by decide +kernel

theorem test_readCompletion_bad : after .readCompletion (reading 1 [] badBits live) (fun t =>
    (t.chain 1).faultRun == 1 && t.records.queue.length == 1 && t.flagged .chain &&
    !(t.image 1).primed) = true := by decide +kernel

theorem test_pageAcquisition : after .pageAcquisition { live with
    window := [(entryBase 1, 1)], frame := { FrameWork.empty with pageWork := true },
    records := { RecordUnit.reset with queue := [sample, sample], seq := 2, generated := 2 } } (fun t =>
    t.pages.current == some 1 && t.recordCount 1 == 2 && t.records.written == 2 && t.records.queue == [] &&
    t.pageOwner 1 == pageFilling) = true := by decide +kernel

theorem test_overrunRecord : after .overrunRecord { live with
    records := { RecordUnit.reset with queue := [sample], overrun := 4, episodes := 2 } } (fun t =>
    t.records.overrun == 0 && t.records.queue.map Record.detail == [3, 4]) = true := by decide +kernel

theorem test_drainEnd : after .drainEnd (paged draining) (fun t =>
    t.run.state == .idle && t.window.read (pageBase 1 + 7) == 4 && t.flagged .stopped) = true := by decide +kernel

theorem test_drainEnd_after_frame : after .drainEnd { paged draining with
    frame := { FrameWork.empty with pageWork := true }
    pages := { (paged draining).pages with sealTimer := 2 } } (fun t =>
    t.run.state == .idle && t.window.read (pageBase 1 + 7) == 2 && t.pages.sealed == 1) = true := by decide +kernel

/-- SET_CHAIN parameters: chain 5, enabled, 8 points. -/
def chainParams : List Byte := [5, 1, 1, 1, 2, 9, 0, 3, 0x96, 0, 0, 0]

theorem test_setChain : after .setChain (posted 1 1 chainParams live) (fun t =>
    (t.chain 5).state == .cold && (t.chain 5).defn.period == 9 && t.slotOwner 1 == slotAnswered &&
    t.requests.taken == [] && t.requests.cursor == 1 && t.frame.sweep == [3]) = true := by decide +kernel

theorem test_setChain_range : after .setChain (posted 1 1 (16 :: chainParams.tail) live) (fun t =>
    t.window.read (slotBase 1 + 16) == 2 && t.window.read (slotBase 1 + 17) == 1) = true := by decide +kernel

theorem test_readChain : after .readChain (posted 1 2 [5, 0, 0, 0, 0, 0, 0, 0, 0, 0, 0, 0] (put 5 .cold live)) (fun t =>
    (t.chain 5).waiting == .reads [1] && t.due == [5] && (t.chain 5).state == .settling &&
    t.slotOwner 1 == slotTaken) = true := by decide +kernel

theorem test_parkChain : after .parkChain (posted 1 3 [5, 0, 0, 0, 0, 0, 0, 0, 0, 0, 0, 0]
    { (put 5 .warm live) with lru := [5] }) (fun t =>
    (t.chain 5).state == .cold && t.lru == [] && t.slotOwner 1 == slotAnswered) = true := by decide +kernel

theorem test_parkChain_deferred : after .parkChain (posted 1 3 [5, 0, 0, 0, 0, 0, 0, 0, 0, 0, 0, 0]
    (reading 5 [] [] live)) (fun t =>
    (t.chain 5).waiting == .deferred 1 && t.slotOwner 1 == slotTaken) = true := by decide +kernel

/-- SET_GROUP parameters: group 9, chain 5, base 2, width 4, mode BOTH, class 2, mask 0Fh, compare 05h. -/
def groupParams : List Byte := [9, 5, 2, 4, 2, 2, 0x0F, 0, 0x05, 0, 0, 0]

theorem test_parkChain_abandons_settle : after .parkChain (posted 1 3 [5, 0, 0, 0, 0, 0, 0, 0, 0, 0, 0, 0]
    ((put 5 .settling live).modChain 5 fun r => { r with settle := some 0 })) (fun t =>
    (t.chain 5).state == .cold && (t.chain 5).stale) = true := by decide +kernel

theorem test_setGroup : after .setGroup (posted 1 4 groupParams (put 5 .cold live)) (fun t =>
    (t.group 9).defined && (t.group 9).mask == 0x0F && (t.group 9).state == .unset &&
    t.windowByte (0x480 + 72) == 0x05) = true := by decide +kernel

/-- Group 9 defined and CONFORM at 05h. -/
def grouped (s : State) : State :=
  s.setGroup 9 { GroupRec.reset with defined := true, chain := 5, base := 2, width := 4, mask := 0x0F, compare := 5
                                     state := .conform, last := 5 }

theorem test_rearmGroup : after .rearmGroup (posted 1 5 [9, 3, 0, 0, 0, 0, 0, 0, 0, 0, 0, 0] (grouped live)) (fun t =>
    (t.group 9).compare == 3 && (t.group 9).state == .diverged && (t.group 9).last == 5) = true := by decide +kernel

theorem test_dropGroup : after .dropGroup (posted 1 6 [9, 0, 0, 0, 0, 0, 0, 0, 0, 0, 0, 0] (grouped live)) (fun t =>
    !(t.group 9).defined && t.windowByte (0x480 + 72) == 0) = true := by decide +kernel

theorem test_flush : after .flush (posted 1 7 [] (paged live)) (fun t =>
    t.pages.current == none && t.pageOwner 1 == pageSealed && t.window.read (slotBase 1 + 17) == 1 &&
    t.window.read (slotBase 1 + 24) == 5) = true := by decide +kernel

theorem test_badKind : after .badKind (posted 1 8 [] live) (fun t =>
    t.slotOwner 1 == slotAnswered && t.window.read (slotBase 1 + 16) == 1) = true := by decide +kernel

theorem test_transactionBegin : after (.transactionBegin [0x33, 0x03, 0x01, 0x00] [true]) (live.raise .sealed) (fun t =>
    t.alerts.flags == 0 && t.port.phase == .registerWrite 4 none && t.port.shift == [true]) = true := by decide +kernel

theorem test_transaction_runs_on : after (.transactionBegin [0] [])
    { live with port := Port.fresh (.registerRead 1 0x1234 false) } (fun t => t.port.sdo == some 0x12) = true := by
  decide +kernel

theorem test_transactionBegin_msb_first : after (.transactionBegin [] [false, false, true, true, false, true, false, false])
    live (fun t => t.port.phase == .registerNumber false && t.port.shift == []) = true := by decide +kernel

theorem test_transactionEnd : after .transactionEnd { live with port := Port.fresh .ignored } (fun t =>
    t.port.phase == .closed && t.portOpen) = true := by decide +kernel

theorem test_bitTime : after (.bitTime 0x0002) (reading 1 [] [true] live) (fun t =>
    t.read.map ReadInProgress.received == some [true, true] && t.cclk) = true := by decide +kernel

/-! ## Witnesses: the hypotheses of each statement are met, clause by clause -/

/-- A sweep whose next slot reads POSTED takes it next. -/
theorem nextTake_of_front {s : State} {k : SlotNo} {rest : List SlotNo} (h : s.frame.sweep = k :: rest)
    (p : s.slotOwner k = slotPosted) (r : s.requests.taken.length < 6) : s.nextTake k rest :=
  ⟨⟨[], h, fun _ hj => absurd hj List.not_mem_nil⟩, p, r⟩

/-- One slot passed over before the take. -/
theorem nextTake_of_second {s : State} {j k : SlotNo} {rest : List SlotNo} (h : s.frame.sweep = j :: k :: rest)
    (q : s.slotOwner j ≠ slotPosted) (p : s.slotOwner k = slotPosted) (r : s.requests.taken.length < 6) :
    s.nextTake k rest :=
  ⟨⟨[j], h, fun i hi => by rw [List.mem_singleton] at hi; rw [hi]; exact q⟩, p, r⟩

/-- A state in which every timer runs out in this cycle. -/
def lastCycle : State :=
  { put 0 .settling (reading 1 [] goodBits live) with
    run := { live.run with zeroing := some 1, frameTimer := some 1 }
    read := (reading 1 [] goodBits live).read.map fun rd => { rd with elapsed := 135 } }

theorem witness_EmptyQueueStepIsOneCycle_timers : lastCycle.pending = [] ∧ lastCycle.frame = FrameWork.empty ∧
    lastCycle.run.zeroing = some 1 ∧ lastCycle.run.frameTimer = some 1 ∧ (lastCycle.chain 0).settle = some 1 ∧
    lastCycle.read.map (fun rd => (rd.elapsed + 1, rd.bitTime * (rd.length + 9))) = some (136, 136) := by decide +kernel

theorem witness_EmptyQueueStepIsOneCycle_bits : ∀ k ∈ [1, 16],
    (reading 1 [] [true] live).pending = [] ∧ (reading 1 [] [true] live).frame = FrameWork.empty ∧
    ((reading 1 [] [true] live).read.map fun rd => { rd with elapsed := 8 * k + 3 }).map
      (fun rd => (rd.bitTime, rd.elapsed + 1, decide (k ≤ rd.length + 8))) = some (8, 8 * k + 8 / 2, true) := by
  decide +kernel

theorem witness_EmptyQueueStepIsOneCycle_still : up.pending = [] ∧ up.frame = FrameWork.empty ∧ up.run.zeroing = none ∧
    up.run.frameTimer = none ∧ (∀ c : ChainNo, (up.chain c).settle = none) ∧ up.read = none := by decide +kernel

theorem witness_EmptyQueueStepIsOneCycle_load : (reading 1 [] [] live).pending = [] ∧
    (reading 1 [] [] live).frame = FrameWork.empty ∧
    ((reading 1 [] [] live).read.map fun rd => { rd with elapsed := 7 }).map (fun rd => (rd.bitTime, rd.elapsed + 1)) =
      some (8, 8) := by decide +kernel

theorem witness_EmptyQueueStepIsOneCycle_frame : (posted 1 7 [] live).pending = [] ∧
    (posted 1 7 [] live).frame ≠ FrameWork.empty := by decide +kernel

theorem witness_HardReset_phases : live.port.phase = .closed ∧
    { live with port := Port.fresh .instruction }.port.phase ≠ .closed := by decide +kernel

theorem witness_Init : State.reset.run.nresetLow = true ∧ live.run.nresetLow = false ∧ zeroing.run.state = .init ∧
    zeroing.run.zeroing.isSome = true ∧ zeroing.portOpen = true ∧ live.run.state ≠ .init ∧ live.run.zeroing = none := by
  decide +kernel

/-- The hypotheses of an accepted START. -/
def startable (s : State) (S P F W K D : Nat) : Prop :=
  s.portOpen = true ∧ s.run.state = .idle ∧ (s.window.read 0).toNat = S ∧ (s.window.read 1).toNat = P ∧
  (s.window.read 2).toNat = F ∧ (s.window.read 3).toNat = W ∧ (s.window.read 4).toNat = K ∧
  (s.window.read 5).toNat = D ∧ 1 ≤ S ∧ S ≤ 16 ∧ 2 ≤ P ∧ P ≤ 40 ∧ 1 ≤ F ∧ F ≤ 64 ∧ 1 ≤ W ∧ W ≤ 4 ∧ K ≤ 3 ∧ 1 ≤ D ∧
  s.pinnedCount < W

/-- A pinned chain. -/
def pin (c : ChainNo) (s : State) : State := s.modChain c fun r => { r with defn := { r.defn with pinned := true } }

theorem witness_StartAccepted_low : startable (header [1, 2, 1, 1, 0, 1] up) 1 2 1 1 0 1 := by
  unfold startable; decide +kernel
theorem witness_StartAccepted_high : startable (pin 0 (pin 15 (pin 7 (header [16, 40, 64, 4, 3, 255] up)))) 16 40 64 4 3 255 := by
  unfold startable; decide +kernel

theorem witness_StartRefused : ∀ x ∈ [((1 : Nat), ([0, 2, 1, 1, 0, 1] : List Byte)), (1, [17, 2, 1, 1, 0, 1]),
    (2, [16, 1, 1, 1, 0, 1]), (2, [16, 41, 1, 1, 0, 1]), (3, [1, 40, 0, 1, 0, 1]), (3, [1, 40, 65, 1, 0, 1]),
    (4, [1, 2, 64, 0, 0, 1]), (4, [1, 2, 64, 5, 0, 1]), (5, [1, 2, 1, 4, 4, 1]), (6, [1, 2, 1, 4, 3, 0]),
    (7, [1, 2, 1, 1, 0, 1])],
    (pin 3 (header x.2 up)).portOpen = true ∧ (pin 3 (header x.2 up)).run.state = .idle ∧
    (pin 3 (header x.2 up)).startRefusal = x.1 := by decide +kernel

theorem witness_RegisterWrites_ignored : live.portOpen = true ∧ live.run.state ≠ .idle ∧ up.portOpen = true ∧
    up.run.state = .idle ∧ zeroing.portOpen = true ∧ zeroing.run.state = .init ∧ State.reset.portOpen = false ∧
    { live with port := Port.fresh .ignored }.portOpen = false ∧ (Instr.registerWriteIgnored 5 0).wf = true := by
  decide +kernel

/-- RUNNING, a read of chain 1 with slot 2 attached, chain 0 SETTLING, chain 3 WARM, slot 1 waiting on chain 0. -/
def stoppable : State :=
  list 0 (.reads [1]) (list 1 (.reads [2]) (held 1 2 [0] (held 2 2 [1]
    (put 0 .settling (put 3 .warm (reading 1 [2] [true] { live with due := [0], lru := [3] }))))))

theorem witness_StopEntersDraining : stoppable.portOpen = true ∧ stoppable.run.state = .running ∧
    stoppable.finishFrame.read = stoppable.read ∧ stoppable.read.isSome = true ∧ stoppable.finishFrame.windowLaw ∧
    (stoppable.finishFrame.chain 0).state = .settling ∧ (stoppable.finishFrame.chain 3).state = .warm ∧
    (stoppable.finishFrame.chain 5).state = .off ∧
    stoppable.finishFrame.requests.taken.map Held.slot = [2, 1] ∧ !stoppable.finishFrame.belongsToRead 1 := by
  decide +kernel

theorem witness_StopEntersDraining_idle : (paged live).portOpen = true ∧ (paged live).run.state = .running ∧
    (paged live).finishFrame.windowLaw ∧ (paged live).finishFrame.read = none ∧
    (paged live).finishFrame.records.queue = [] ∧ (paged live).finishFrame.pages.current = some 1 ∧
    ({ live with records := { RecordUnit.reset with queue := [sample] } } : State).finishFrame.records.queue ≠ [] := by
  decide +kernel

/-- DRAINING with the same read, a page held and two records waiting. -/
def drainable : State :=
  { paged (list 1 (.reads [2]) (held 2 2 [1] (reading 1 [2] [true] draining))) with
    records := { RecordUnit.reset with queue := [sample, sample], generated := 2 } }

theorem witness_SecondStop : drainable.portOpen = true ∧ drainable.run.state = .draining ∧
    drainable.finishFrame.run.state = .draining ∧ drainable.finishFrame.windowLaw ∧ drainable.finishFrame.balanceLaw ∧
    drainable.finishFrame.pages.current = some 1 ∧ drainable.finishFrame.read.isSome = true ∧
    (2 : SlotNo) ∈ (drainable.finishFrame.chain 1).waiting.slots := by decide +kernel

theorem witness_SoftReset : stoppable.portOpen = true ∧ stoppable.run.state ≠ .init ∧
    (paged stoppable).finishFrame.windowLaw ∧ (paged stoppable).finishFrame.takenLaw ∧
    (paged stoppable).finishFrame.requests.taken.length = 2 ∧ (paged stoppable).finishFrame.pages.current = some 1 ∧
    (paged stoppable).run.geometry = some shape := by decide +kernel

theorem witness_DrainEnd : draining.run.state = .draining ∧ draining.read = none ∧ draining.records.queue = [] ∧
    draining.pages.current = none ∧ (paged draining).pages.current = some 1 ∧ (paged draining).windowLaw ∧
    live.run.state ≠ .draining ∧ drainable.read.isSome = true ∧ drainable.records.queue ≠ [] := by decide +kernel

theorem witness_DrainEnd_frame : let s : State := { paged draining with
      frame := { FrameWork.empty with pageWork := true }, pages := { (paged draining).pages with sealTimer := 2 } }
    s.run.state = .draining ∧ s.read = none ∧ s.records.queue = [] ∧ s.pages.current = some 1 ∧ s.windowLaw ∧
    s.frame.pageWork = true ∧ s.run.geometry.map Geometry.sealDelay = some (s.pages.sealTimer + 1) := by decide +kernel

theorem witness_ItemsChange : after .flush live (fun _ => true) = true ∧ Instr.flush ≠ .hardReset := by decide +kernel

theorem witness_RegisterWrites : live.portOpen = true ∧ live.run.state ≠ .init ∧ zeroing.portOpen = true ∧
    zeroing.run.state = .init ∧ 5 ≤ (5 : Byte).toNat ∧ 5 ≤ (255 : Byte).toNat ∧
    (0x0100 : Half).setWidth 8 ≠ (0x01 : Byte) := by decide +kernel

theorem witness_SecondOfCauseAndClear : live.portOpen = true ∧ Flag.board.mask &&& (0x0040 : Half).setWidth 7 = Flag.board.mask ∧
    Flag.trip ≠ Flag.board ∧ Flag.trip.mask &&& (0x0040 : Half).setWidth 7 = 0 ∧
    ({ live with alerts := { live.alerts with enables := 0x40 } }.alerts.enables &&& Flag.board.mask = Flag.board.mask) ∧
    zeroing.initLaw ∧ zeroing.run.state = .init := by decide +kernel

/-- Refusal 7, six slots taken, four chains warm. -/
def crowded : State :=
  { put 0 .warm (put 1 .warm (put 2 .warm (put 3 .settling
      (held 0 7 [] (held 1 7 [] (held 2 7 [] (held 3 7 [] (held 4 7 [] (held 5 7 [] live))))))))) with
    run := { live.run with refusal := 7 } }

theorem witness_RegistersAndWindow : crowded.run.refusal ≤ 7 ∧ crowded.requests.taken.length = 6 ∧
    crowded.warmCount = 4 := by decide +kernel

theorem witness_WindowWrite_first : ∀ a ∈ ([0x0F, 0x10, 0x3F, 0x40, 0x41, 0x4F, 0x50, 0x6F, 0x33F, 0x340, 0x341, 0x3DF, 0x3E0,
    0x3FF, 0x400, 0x67F, 0x680, 0x6FF, 0x700, 0x2EFF, 0x2F00, 0x3FFF] : List Nat),
    live.portOpen = true ∧ (some (BitVec.ofNat 16 a)).map (BitVec.setWidth 14) = some (BitVec.ofNat 14 a) ∧ live.windowLaw := by
  decide +kernel

theorem witness_WindowWrite_next : { live with port := Port.fresh (.windowWrite 0x3FFF) }.portOpen = true ∧
    { live with port := Port.fresh (.windowWrite 0x3FFF) }.port.phase = .windowWrite 0x3FFF ∧
    zeroing.portOpen = true ∧ zeroing.windowLaw := by decide +kernel

theorem witness_WindowRead_first : live.portOpen = true ∧ live.run.state ≠ .init ∧ zeroing.portOpen = true ∧
    inMirror 0x400 = true ∧ inMirror 0x67F = true ∧ inMirror 0x3FF = false ∧ inMirror 0x680 = false := by decide +kernel

/-- A window read that stands at an address, with both captures. -/
def capturing (addr : WindowAddr) : State :=
  { live with port := { Port.fresh (.windowRead addr) with
      headerCapture := some (List.replicate 64 1), mirrorCapture := some (0x400, List.replicate 8 2) } }

theorem witness_WindowRead_next : ∀ a ∈ ([0, 0x3F, 0x40, 0x3FF, 0x400, 0x401, 0x407, 0x680, 0x3FFF] : List Nat),
    (capturing (BitVec.ofNat 14 a)).portOpen = true ∧ (capturing (BitVec.ofNat 14 a)).port.phase = .windowRead (BitVec.ofNat 14 a) ∧ (capturing (BitVec.ofNat 14 a)).run.state ≠ .init ∧
    (capturing 0x401).port.mirrorCapture = some (((capturing 0x401).mirrorEntry 0x401).1, List.replicate 8 2) ∧
    ({ capturing (BitVec.ofNat 14 a) with run := zeroing.run }).portOpen = true := by decide +kernel

theorem witness_Transactions : live.run.nresetLow = false ∧ live.port.phase = .closed ∧ live.run.state ≠ .init ∧
    State.reset.run.nresetLow = true ∧ (List.replicate 7 true).length < 8 ∧ (0x30 : Byte) ≠ 0x31 ∧
    (0x35 : Byte) ≠ 0x34 ∧ { live with port := Port.fresh .ignored }.port.phase = .ignored := by decide +kernel

theorem witness_Transactions_registerRead : ∀ high ∈ [false, true],
    { live with port := Port.fresh (.registerRead 255 3 high) }.port.phase = .registerRead 255 3 high ∧
    { live with port := Port.fresh (.registerRead 255 3 high) }.port.shift = [] := by decide +kernel

theorem witness_FrameExpiryOpens : (put 0 .cold (put 1 .lost live)).run.state = .running ∧
    (put 0 .cold (put 1 .lost live)).frame = FrameWork.empty ∧ (put 0 .cold live).run.geometry = some shape ∧
    0 < ((put 0 .cold live).chain 0).defn.period ∧ ((put 0 .cold live).chain 0).periodCounter = 1 ∧
    ((put 1 .lost live).chain 1).state = .lost := by decide +kernel

theorem witness_FrameExpiryActs : ([.requestEngine, .pageWriter, .chainController, .scanScheduler] : List FrameBlock).Nodup ∧
    live.run.state = .running ∧ live.run.geometry = some shape ∧ draining.run.state = .draining ∧
    draining.frame = FrameWork.empty ∧ up.run.state = .idle ∧ up.frame = FrameWork.empty ∧ zeroing.run.state = .init := by
  decide +kernel

theorem witness_FrameExpiryActs_pageWriter : FrameBlock.pageWriter ∉ ([.requestEngine] : List FrameBlock) ∧
    FrameBlock.pageWriter ∈ ([.requestEngine, .pageWriter] : List FrameBlock) := by decide +kernel

theorem witness_FrameBlocks : allChains.Nodup ∧ live.frame.sweep = [] ∧ (posted 1 7 [] live).frame.sweep = [1, 3] ∧
    (posted 1 7 [] live).slotOwner 1 = slotPosted ∧ (posted 1 7 [] live).requests.taken.length < 6 ∧
    (posted 1 7 [] live).slotOwner 3 ≠ slotPosted ∧
    (posted 9 7 [] (held 0 7 [] (held 1 7 [] (held 2 7 [] (held 3 7 [] (held 4 7 [] (held 5 7 [] live))))))).slotOwner 9 =
      slotPosted ∧
    6 ≤ (held 0 7 [] (held 1 7 [] (held 2 7 [] (held 3 7 [] (held 4 7 [] (held 5 7 [] live)))))).requests.taken.length := by
  decide +kernel

/-- Chain 3 is next to expire. -/
def expiring (s : State) : State := { s with frame := { s.frame with expiries := [3, 4] } }

theorem witness_PeriodExpiry : (expiring live).frame.expiries = 3 :: [4] ∧ (3 : ChainNo) ∈ (expiring { live with due := [3] }).due ∧
    (3 : ChainNo) ∉ (expiring live).due ∧ ((expiring (put 3 .reading live)).chain 3).state = .reading ∧
    ((expiring (put 3 .settling live)).chain 3).state = .settling ∧
    ((expiring (put 3 .cold live)).chain 3).state = .cold ∧
    (expiring (put 3 .cold live)).warmCount < (expiring (put 3 .cold live)).warmLimit ∧
    (expiring (put 3 .warm live)).read = none ∧ ((expiring (put 3 .warm live)).chain 3).state = .warm ∧
    (expiring (put 3 .warm live)).run.geometry.isSome = true ∧
    (expiring (put 3 .warm (reading 1 [] [] live))).read.isSome = true := by decide +kernel

theorem witness_IdleCoolDown : (3 : ChainNo) ∈ ({ live with frame := { FrameWork.empty with coolDowns := [3] } } : State).frame.coolDowns ∧
    ((put 3 .warm live).chain 3).state = .warm ∧ ((put 3 .warm live).chain 3).defn.pinned = false ∧
    (3 : ChainNo) ∉ (put 3 .warm live).due ∧ 0 < ((put 3 .warm live).chain 3).defn.coolDown ∧
    ((put 3 .warm live).chain 3).idle + 1 < ((put 3 .warm live).chain 3).defn.coolDown ∧
    (((put 3 .warm live).modChain 3 fun r => { r with idle := 1 }).chain 3).defn.coolDown ≤ 1 + 1 ∧
    ((put 3 .cold live).chain 3).state ≠ .warm := by decide +kernel

/-- A page held and the Page Writer's frame work outstanding. -/
def sealing (timer : Nat) : State :=
  { paged live with frame := { FrameWork.empty with pageWork := true }, pages := { (paged live).pages with sealTimer := timer } }

theorem witness_SealTimer : (sealing 2).frame.pageWork = true ∧ (sealing 2).pages.current = some 1 ∧
    (sealing 2).run.geometry = some shape ∧ (sealing 2).records.queue = [] ∧ (sealing 2).run.state = .running ∧
    (sealing 2).pages.sealTimer + 1 = shape.sealDelay ∧ (sealing 1).pages.sealTimer + 1 ≠ shape.sealDelay ∧
    (sealing 2).windowLaw := by decide +kernel

theorem witness_SealTimer_drain : let s : State := { sealing 2 with run := draining.run }
    s.frame.pageWork = true ∧ s.pages.current = some 1 ∧ s.run.geometry = some shape ∧ s.records.queue = [] ∧
    s.run.state = .draining ∧ s.read = none := by decide +kernel

theorem witness_SettleCompletion_stale : (((put 3 .settling live).modChain 3 fun r => { r with stale := true }).chain 3).stale
      = true ∧
    (live.chain 3).stale = false ∧ (live.chain 3).state ≠ .settling := by decide +kernel

theorem witness_SettleCompletion : ((put 3 .settling live).chain 3).state = .settling ∧
    ((put 3 .settling live).chain 3).stale = false ∧ ((put 3 .settling (reading 1 [] [] live)).chain 3).stale = false ∧
    (put 3 .settling (reading 1 [] [] live)).read.isSome = true ∧ ((put 3 .settling (reading 1 [] [] live)).chain 3).state = .settling ∧
    (put 3 .settling { live with due := [3] }).read = none ∧ (3 : ChainNo) ∈ (put 3 .settling { live with due := [3] }).due ∧
    (put 3 .settling live).run.geometry.isSome = true ∧
    (∀ d ∈ (put 3 .settling { live with due := [3] }).due, ((put 3 .settling { live with due := [3] }).chain d).state ≠ .warm) := by
  decide +kernel

theorem witness_Grant_room : let s := put 3 .cold (put 1 .warm { live with due := [1, 3, 4], lru := [1] })
    s.due = [1] ++ 3 :: [4] ∧ (∀ d ∈ [(1 : ChainNo)], (s.chain d).state ≠ .cold) ∧ (s.chain 3).state = .cold ∧
    s.warmCount < s.warmLimit := by decide +kernel

theorem witness_Grant_victim : let s := put 3 .cold (put 1 .warm (put 2 .warm { live with due := [1, 3], lru := [1, 2] }))
    s.due = [1] ++ 3 :: [] ∧ (∀ d ∈ [(1 : ChainNo)], (s.chain d).state ≠ .cold) ∧ (s.chain 3).state = .cold ∧
    s.warmLimit ≤ s.warmCount ∧ s.lru = [1] ++ 2 :: [] ∧
    (∀ d ∈ [(1 : ChainNo)], (s.chain d).state ≠ .warm ∨ (s.chain d).defn.pinned = true ∨ d ∈ s.due) ∧
    (s.chain 2).state = .warm ∧ (s.chain 2).defn.pinned = false ∧ 2 ∉ s.due := by decide +kernel

theorem witness_Grant_none : let s := put 3 .cold (put 1 .warm (put 2 .settling { live with due := [1, 2, 3], lru := [1] }))
    s.due = [1, 2] ++ 3 :: [] ∧ (s.chain 3).state = .cold ∧ s.warmLimit ≤ s.warmCount ∧
    (∀ d ∈ s.lru, (s.chain d).state ≠ .warm ∨ (s.chain d).defn.pinned = true ∨ d ∈ s.due) := by decide +kernel

theorem witness_ReadStarts : let s := put 3 .warm (put 1 .cold { live with due := [1, 3], lru := [3] })
    s.read = none ∧ s.run.geometry = some shape ∧ s.due = [1] ++ 3 :: [] ∧
    (∀ d ∈ [(1 : ChainNo)], (s.chain d).state ≠ .warm) ∧ (s.chain 3).state = .warm := by decide +kernel

theorem witness_BitTime : ((reading 1 [] [] live).read.map ReadInProgress.loading) = some true ∧
    ((reading 1 [] [true] live).read.map ReadInProgress.loading) = some false ∧
    ((reading 1 [] goodBits live).read.map fun rd => decide (rd.length + 8 ≤ rd.received.length)) = some true := by
  decide +kernel

/-- The read of chain 1 in `s`, whole. -/
def wholeRead (attached : List SlotNo) (bits : List Bool) : ReadInProgress :=
  { chain := 1, length := 8, bitTime := 8, attached := attached, received := bits, loading := false, clockHigh := false,
    elapsed := 136 }

/-- RUNNING, a whole read of chain 1 with slot 2 attached. -/
def finished (bits : List Bool) : State :=
  { list 1 (.reads [2]) (held 2 2 [1, 1] (reading 1 [2] bits live)) with read := some (wholeRead [2] bits) }

theorem witness_readEnds_good : (finished goodBits).readEnds (wholeRead [2] goodBits) true := by
  unfold State.readEnds; decide +kernel

theorem witness_readEnds_bad : (finished badBits).readEnds (wholeRead [2] badBits) false := by
  unfold State.readEnds; decide +kernel

theorem witness_GoodRead : ((finished goodBits).chain 1).waiting = .reads [2] ∧ (finished goodBits).windowLaw ∧
    ((finished goodBits).heldOf 2).isSome = true ∧ ((finished goodBits).group 0).defined = false := by decide +kernel

/-- The whole read of chain 1 with a group on it that diverges in mode BOTH, and a fault run of 2. -/
def evaluated : State :=
  ((finished goodBits).modChain 1 fun r => { r with faultRun := 2 }).setGroup 9
    { GroupRec.reset with defined := true, chain := 1, width := 4, mask := 0x0F, mode := .both, state := .conform }

theorem witness_GoodReadEvaluates : (evaluated.chain 1).waiting = .reads [2] ∧ (evaluated.chain 1).faultRun ≠ 0 ∧
    ((finished goodBits).chain 1).faultRun = 0 ∧ (evaluated.group 9).defined = true ∧ (evaluated.group 9).chain = 1 ∧
    (evaluated.group 9).tripKind
      ((evaluated.group 9).masked ((evaluated.image 1).filter 8 1 goodBits)) = some .diverge ∧
    evaluated.read = some (wholeRead [2] goodBits) := by decide +kernel

theorem witness_HandBack : (finished goodBits).run.state = .running ∧ (finished goodBits).run.geometry.isSome = true ∧
    ((finished goodBits).chain 1).state = .reading ∧ (finished goodBits).due = [] ∧
    ((put 4 .cold { finished goodBits with due := [4] }).chain 4).state = .cold ∧
    ((put 4 .cold { finished goodBits with due := [4] }).chain 1).waiting = .reads [2] := by decide +kernel

theorem witness_HandBack_again : let s : State := { finished goodBits with due := [1] }
    s.run.state = .running ∧ (s.chain 1).state = .reading ∧ (s.chain 1).waiting = .reads [2] ∧
    s.due.find? (fun d => d == 1 || (s.chain d).state == .warm) = some 1 := by decide +kernel

theorem witness_HandBack_drain : ({ finished goodBits with run := draining.run } : State).run.state = .draining ∧
    ({ finished goodBits with run := draining.run } : State).due = [] := by decide +kernel

theorem witness_BadRead : ((finished badBits).chain 1).waiting = .reads [2] ∧ ((finished badBits).chain 1).state = .reading ∧
    ((finished badBits).chain 1).faultRun + 1 < ((finished badBits).chain 1).defn.faultLimit ∧
    ((finished badBits).chain 1).faultRun = 0 ∧ (finished badBits).tripQueueLaw ∧ (finished badBits).windowLaw := by
  decide +kernel

/-- Chain 1's fault run. -/
def faulted (n : Nat) (s : State) : State := s.modChain 1 fun r => { r with faultRun := n }

theorem witness_BadRead_later : ((faulted 1 (finished badBits)).chain 1).faultRun ≠ 0 ∧
    ((faulted 1 (finished badBits)).chain 1).faultRun + 1 < ((faulted 1 (finished badBits)).chain 1).defn.faultLimit := by
  decide +kernel

theorem witness_FaultLimit : ((faulted 2 (finished badBits)).chain 1).defn.faultLimit ≤
      ((faulted 2 (finished badBits)).chain 1).faultRun + 1 ∧
    (faulted 2 (finished badBits)).read = some (wholeRead [2] badBits) ∧
    (faulted 2 (finished badBits)).run.state = .running ∧
    ((faulted 2 (finished badBits)).chain 1).waiting = .reads [2] ∧ (faulted 2 (finished badBits)).windowLaw ∧
    (faulted 2 (finished badBits)).tripQueueLaw := by decide +kernel

/-- A whole read of chain 1 with a deferred request of the kind given in slot 4. -/
def deferring (kind : Byte) (bits : List Bool) : State :=
  { list 1 (.deferred 4) (held 4 kind (1 :: chainParams.tail) (reading 1 [] bits live)) with
    read := some (wholeRead [] bits) }

theorem witness_Deferred : ∀ kind ∈ ([0x01, 0x03] : List Byte),
    (deferring kind badBits).read = some (wholeRead [] badBits) ∧
    ((deferring kind badBits).chain 1).waiting = .deferred 4 ∧
    ((deferring kind badBits).heldOf 4).map (fun r => (r.kind, r.chain)) = some (kind, 1) ∧
    ((deferring kind badBits).chain 1).state = .reading ∧ (deferring kind badBits).windowLaw ∧
    ((deferring kind badBits).chain 1).faultRun + 1 < ((deferring kind badBits).chain 1).defn.faultLimit ∧
    ((faulted 2 (deferring kind badBits)).chain 1).defn.faultLimit ≤ ((faulted 2 (deferring kind badBits)).chain 1).faultRun + 1 ∧
    (wholeRead [] badBits).received.getD 8 false ≠ ((deferring kind badBits).chain 1).defn.checkPattern.getLsbD 0 := by
  decide +kernel

theorem witness_Deferred_good : (faulted 2 (deferring 0x03 goodBits)).readEnds (wholeRead [] goodBits) true := by
  unfold State.readEnds; decide +kernel

theorem witness_Deferred_bad : (deferring 0x03 badBits).readEnds (wholeRead [] badBits) false := by
  unfold State.readEnds; decide +kernel

/-- A primed image whose point 0 and point 127 have counter 1. -/
def primed : Image :=
  { points := Vector.replicate 128 { raw := true, filtered := false, counter := 1 }, primed := true }

theorem witness_GoodReadPrimes : Image.reset.primed = false ∧ primed.primed = true ∧
    ([true].getD 0 false ≠ (primed.point 0).filtered) ∧ (primed.point 0).counter + 1 < 3 ∧ (primed.point 0).counter + 1 = 2 ∧
    ([false].getD 0 false = (primed.point 127).filtered) ∧ (primed.point 127).counter < 2 := by decide +kernel

theorem witness_Trips : ∀ m ∈ [Mode.diverge, .returns, .both, .step], ∀ st ∈ [GroupState.unset, .conform, .diverged],
    ∀ v ∈ [(5 : Nat), 6],
    ({ (grouped live).group 9 with mode := m, state := st }).mode = m ∧ ((grouped live).group 9).width ≤ 16 ∧
    (if BitVec.ofNat 16 v = ((grouped live).group 9).compare &&& ((grouped live).group 9).mask then GroupState.conform else .diverged) =
      (if v = 5 then .conform else .diverged) := by decide +kernel

theorem witness_Evaluation : ((grouped live).group 9).masked ((grouped live).image 5) = 0 ∧
    ({ (grouped live).group 9 with mode := .diverge }).tripKind 0 = some .diverge ∧
    ({ (grouped live).group 9 with mode := .returns }).tripKind 0 = none := by decide +kernel

theorem witness_Generated : live.records.queue.length < 12 ∧ live.pages.current = none ∧ live.pageCount ≤ 40 ∧
    (∀ p : PageNo, p.val < live.pageCount → live.pageOwner p ≠ pageFree) ∧
    ({ live with records := { RecordUnit.reset with queue := fullQueue } } : State).records.queue.length = 12 ∧
    ({ live with records := { RecordUnit.reset with queue := fullQueue.tail } } : State).records.queue.length = 11 := by
  decide +kernel

theorem witness_GeneratedReachesPage_held : ∀ n ∈ ([3, 13, 14] : List Nat),
    let s : State := { paged live with window := (paged live).window.write (pageBase 1 + 6) (BitVec.ofNat 8 n) }
    s.windowLaw ∧ s.records.overrun = 0 ∧ s.pages.current = some 1 ∧ s.records.queue = [] ∧
    s.recordCount 1 = BitVec.ofNat 8 n ∧ n < 15 := by decide +kernel

theorem witness_GeneratedReachesPage_free : ∀ l ∈ [([] : List Record), fullQueue.tail],
    let s : State := { live with window := [(entryBase 1, 1)], records := { RecordUnit.reset with queue := l } }
    s.windowLaw ∧ s.records.overrun = 0 ∧ s.pages.current = none ∧ s.records.queue.length < 12 ∧
    s.searchPage = some 1 := by decide +kernel

theorem witness_FreedPlace : ({ RecordUnit.reset with queue := fullQueue, overrun := 1 } : RecordUnit).queue =
      sample :: List.replicate 11 sample ∧
    ({ RecordUnit.reset with queue := fullQueue, overrun := 1 } : RecordUnit).overrun ≠ 0 ∧
    ({ RecordUnit.reset with queue := fullQueue } : RecordUnit).overrun = 0 := by decide +kernel

theorem witness_OverrunRecord : let s : State := { live with records := { RecordUnit.reset with queue := fullQueue.tail, overrun := 0xFFFF } }
    s.records.queue.length < 12 ∧ s.records.overrun ≠ 0 ∧ s.pages.current = none ∧ s.pageCount ≤ 40 ∧
    (∀ p : PageNo, p.val < s.pageCount → s.pageOwner p ≠ pageFree) ∧ live.records.overrun = 0 ∧
    12 ≤ fullQueue.length := by decide +kernel

theorem witness_Search : ({ live with window := [(entryBase 1, 1)] } : State).searchPage = some 1 ∧ live.searchPage = none ∧
    live.pageCount = 3 := by decide +kernel

theorem witness_Acquisition : let s : State := { live with window := [(entryBase 1, 1)], frame := { FrameWork.empty with pageWork := true }, records := { RecordUnit.reset with queue := fullQueue, overrun := 2 } }
    s.frame.pageWork = true ∧ s.pages.current = none ∧ s.records.queue.length = 12 ∧ s.windowLaw ∧ s.run.state = .running ∧
    s.searchPage = some 1 ∧ s.records.queue ≠ [] ∧ s.records.overrun ≠ 0 := by decide +kernel

theorem witness_Acquisition_none : let s : State := { live with frame := { FrameWork.empty with pageWork := true } }
    s.frame.pageWork = true ∧ s.pages.current = none ∧ s.records.queue = [] ∧ s.searchPage = none ∧ s.windowLaw := by
  decide +kernel

theorem witness_Acquisition_drain : let s : State := { draining with window := [(entryBase 1, 1)], frame := { FrameWork.empty with pageWork := true }, records := { RecordUnit.reset with queue := [sample] } }
    s.frame.pageWork = true ∧ s.pages.current = none ∧ s.records.queue.length ≤ 12 ∧ s.windowLaw ∧
    s.run.state = .draining ∧ s.read = none ∧ s.searchPage = some 1 ∧ s.records.queue ≠ [] ∧
    draining.records.queue = [] ∧ ({ s with window := [] } : State).searchPage = none := by decide +kernel

/-- The premises every take shares, for the slot at the front of the sweep. -/
theorem take_of_posted (kind : Byte) (params : List Byte) (s : State)
    (p : (posted 1 kind params s).slotOwner 1 = slotPosted) (r : s.requests.taken.length < 6) :
    (posted 1 kind params s).nextTake 1 [3] := nextTake_of_front rfl p r

theorem witness_nextTake_passed : ({ posted 1 7 [] live with frame := { FrameWork.empty with sweep := [0, 1, 3] } } : State).nextTake 1 [3] :=
  nextTake_of_second rfl (by decide +kernel) (by decide +kernel) (by decide +kernel)

/-- Twelve parameter bytes, the first given. -/
def twelve (b : Byte) : List Byte := b :: List.replicate 11 0

theorem witness_Refused_checks : ((posted 1 1 (twelve 16) live).checkSetChain ((posted 1 1 (twelve 16) live).readRequest 1)).isSome = true ∧
    ((posted 1 2 (twelve 5) live).checkReadChain ((posted 1 2 (twelve 5) live).readRequest 1)).isSome = true ∧
    ((posted 1 3 (twelve 5) live).checkParkChain ((posted 1 3 (twelve 5) live).readRequest 1)).isSome = true ∧
    ((posted 1 4 (twelve 64) live).checkSetGroup ((posted 1 4 (twelve 64) live).readRequest 1)).isSome = true ∧
    ((posted 1 5 (twelve 9) live).checkRearm ((posted 1 5 (twelve 9) live).readRequest 1)).isSome = true ∧
    ((posted 1 6 (twelve 9) live).checkDrop ((posted 1 6 (twelve 9) live).readRequest 1)).isSome = true := by decide +kernel

theorem witness_Refused_laws : ∀ kind ∈ ([0, 1, 2, 3, 4, 5, 6, 8, 255] : List Byte),
    (posted 1 kind (twelve 64) live).windowLaw ∧ (posted 1 kind (twelve 64) live).takenLaw ∧
    ((posted 1 kind (twelve 64) live).readRequest 1).kind = kind ∧
    (posted 1 kind (twelve 64) live).slotOwner 1 = slotPosted := by decide +kernel

/-- A request with twelve parameter bytes. -/
def asked (params : List Byte) : Request := { kind := 1, tag := 0, params := params }

theorem witness_Checks_ranges : rangeRefusal (asked [0, 0, 1, 1, 1, 0, 0, 1, 1, 0]).setChainRanges = none ∧
    rangeRefusal (asked [15, 1, 16, 255, 8, 255, 255, 7, 254, 1]).setChainRanges = none ∧
    rangeRefusal (asked [15, 1]).readChainRanges = none ∧ rangeRefusal (asked [15]).parkChainRanges = none ∧
    rangeRefusal (asked [63, 15, 127, 16, 3, 3, 255, 255, 255, 255]).setGroupRanges = none ∧
    rangeRefusal (asked [63, 255, 255]).rearmRanges = none ∧ rangeRefusal (asked [63]).dropRanges = none ∧
    ¬ (asked [16]).param 0 ≤ 15 ∧ ¬ (asked [0, 2]).param 1 ≤ 1 ∧
    ¬ (asked [15, 1, 16, 255, 8, 255, 255, 7, 254, 2]).param 9 ≤ 1 := by decide +kernel

theorem witness_Checks_records : (list 1 (.deferred 4) (held 4 1 [1, 1, 2, 1, 1, 0, 0, 3, 0x96, 1] live)).takenLaw ∧
    ((grouped live).group 9).defined = true ∧ 5 < ((grouped live).group 9).base + ((grouped live).group 9).width ∧
    (grouped live).groupBeyond 5 5 = some 9 ∧ (grouped live).groupBeyond 5 6 = none := by decide +kernel

theorem witness_SetChain : let s := posted 1 1 chainParams (put 5 .warm { live with lru := [5] })
    s.windowLaw ∧ s.takenLaw ∧ s.slotOwner 1 = slotPosted ∧ (s.readRequest 1).kind = 0x01 ∧ (s.readRequest 1).chain = 5 ∧
    s.checkSetChain (s.readRequest 1) = none ∧ (s.chain 5).state ≠ .reading := by decide +kernel

theorem witness_Deferral : ∀ x ∈ [((0x01 : Byte), chainParams), (0x03, twelve 5)],
    let s := posted 1 x.1 x.2 (reading 5 [] [true] live)
    s.windowLaw ∧ s.takenLaw ∧ s.slotOwner 1 = slotPosted ∧ (s.readRequest 1).kind = x.1 ∧ (s.readRequest 1).chain = 5 ∧
    (s.chain 5).state = .reading ∧
    (if x.1 = 0x01 then s.checkSetChain (s.readRequest 1) else s.checkParkChain (s.readRequest 1)) = none := by
  decide +kernel

theorem witness_ReadChain : ∀ cs ∈ [ChainState.cold, .reading, .warm, .settling], ∀ due ∈ [([] : List ChainNo), [5]],
    let s := posted 1 2 (twelve 5) (put 5 cs { live with due := due })
    s.windowLaw ∧ s.takenLaw ∧ s.slotOwner 1 = slotPosted ∧ (s.readRequest 1).kind = 0x02 ∧ (s.readRequest 1).chain = 5 ∧
    s.checkReadChain (s.readRequest 1) = none ∧ (s.chain 5).waiting = .reads [] ∧ (s.chain 5).state = cs ∧ s.due = due ∧
    s.read = none ∧ s.run.geometry.isSome = true := by decide +kernel

theorem witness_ReadChain_busy : let s := posted 1 2 (twelve 5) (put 5 .warm (reading 1 [] [true] live))
    s.windowLaw ∧ s.takenLaw ∧ s.slotOwner 1 = slotPosted ∧ (s.readRequest 1).kind = 0x02 ∧ (s.readRequest 1).chain = 5 ∧
    s.checkReadChain (s.readRequest 1) = none ∧ (s.chain 5).waiting = .reads [] ∧ (s.chain 5).state = .warm ∧
    5 ∉ s.due ∧ s.read.isSome = true := by decide +kernel

theorem witness_ParkChain : let s := posted 1 3 (twelve 5) (put 5 .warm { live with lru := [5] })
    s.windowLaw ∧ s.takenLaw ∧ s.slotOwner 1 = slotPosted ∧ (s.readRequest 1).kind = 0x03 ∧ (s.readRequest 1).chain = 5 ∧
    s.checkParkChain (s.readRequest 1) = none ∧ (s.chain 5).state ≠ .reading := by decide +kernel

theorem witness_SetGroup : let s := posted 1 4 groupParams (put 5 .cold live)
    s.windowLaw ∧ s.takenLaw ∧ s.slotOwner 1 = slotPosted ∧ (s.readRequest 1).kind = 0x04 ∧
    s.checkSetGroup (s.readRequest 1) = none ∧ (s.image 5).primed = false ∧
    ((s.setImage 5 primed).image 5).primed = true ∧ (s.readRequest 1).param 0 = 9 := by decide +kernel

theorem witness_Rearm : let s := posted 1 5 ([9, 3, 0] ++ List.replicate 9 0) (grouped live)
    s.windowLaw ∧ s.takenLaw ∧ s.slotOwner 1 = slotPosted ∧ (s.readRequest 1).kind = 0x05 ∧
    s.checkRearm (s.readRequest 1) = none ∧ (s.readRequest 1).param 0 = 9 := by decide +kernel

theorem witness_Drop : let s := posted 1 6 (twelve 9) (grouped live)
    s.windowLaw ∧ s.takenLaw ∧ s.slotOwner 1 = slotPosted ∧ (s.readRequest 1).kind = 0x06 ∧
    s.checkDrop (s.readRequest 1) = none ∧ (s.readRequest 1).param 0 = 9 := by decide +kernel

theorem witness_Flush : (posted 1 7 [] live).pages.current = none ∧ (posted 1 7 [] live).windowLaw ∧
    (posted 1 7 [] live).takenLaw ∧ ((posted 1 7 [] live).readRequest 1).kind = 0x07 ∧
    (posted 1 7 [] live).slotOwner 1 = slotPosted ∧ (posted 1 7 [] (paged live)).pages.current = some 1 ∧
    (posted 1 7 [] (paged live)).records.queue = [] ∧ (posted 1 7 [] (paged live)).windowLaw ∧
    (posted 1 7 [] (paged live)).takenLaw := by decide +kernel

/-- A running state with a read, taken slots, warm and settling chains, a group and a page held: the laws' hypotheses. -/
def lawful : State :=
  let s := (grouped (paged stoppable)).setImage 5 (Image.reset.filter 8 1 goodBits)
  { s with run := { s.run with geometry := some { shape with warm := 3 } } }

theorem witness_windowLaw : lawful.windowLaw := by decide +kernel
theorem witness_initLaw_running : lawful.run.state = .running ∧ lawful.run.nresetLow = false := by decide +kernel
theorem witness_initLaw_zeroing : zeroing.initLaw := by decide +kernel
theorem witness_balanceLaw : lawful.balanceLaw := by decide +kernel
theorem witness_tripQueueLaw : lawful.tripQueueLaw := by decide +kernel
theorem witness_takenLaw : lawful.takenLaw := by decide +kernel
theorem witness_groupLaw : lawful.groupLaw := by decide +kernel
theorem witness_warmLaw : lawful.warmLaw := by decide +kernel
theorem witness_pinLaw : lawful.pinLaw := by decide +kernel
theorem witness_imageLaw : lawful.imageLaw := by decide +kernel

end Sys2Proof.Tests
end

section
/-! SUPPORT. The Point Filter (R53 to R56): what one point's debounce does in each of its three cases, what a good read
leaves at each position, and the statement on good reads. -/

namespace Sys2Proof.Machine

open Sys2Proof

/-! ## One point's debounce -/

/-- A raw value that agrees with the filtered one clears the counter (R56). -/
theorem Point.debounce_of_agree {p : Point} {raw : Bool} (h : raw = p.filtered) (depth : Nat) :
    p.debounce depth raw = { raw := raw, filtered := p.filtered, counter := 0 } := if_pos h

/-- A differing raw value short of the depth counts, and the filtered value stands (R56). -/
theorem Point.debounce_of_short {p : Point} {raw : Bool} {depth : Nat} (h : raw ≠ p.filtered)
    (short : p.counter + 1 < depth) :
    p.debounce depth raw = { raw := raw, filtered := p.filtered, counter := p.counter + 1 } := by
  rw [Point.debounce, if_neg h, if_pos short]

/-- A differing raw value at the depth becomes the filtered one, and the counter is cleared (R56). -/
theorem Point.debounce_of_full {p : Point} {raw : Bool} {depth : Nat} (h : raw ≠ p.filtered)
    (full : depth ≤ p.counter + 1) :
    p.debounce depth raw = { raw := raw, filtered := raw, counter := 0 } := by
  rw [Point.debounce, if_neg h, if_neg (Nat.not_lt.mpr full)]

/-- A counter below the depth stays below it: it is cleared, or counted only while that leaves it below. -/
theorem Point.debounce_counter_lt {p : Point} {depth : Nat} (h : p.counter < depth) (raw : Bool) :
    (p.debounce depth raw).counter < depth := by
  have pos : 0 < depth := Nat.zero_lt_of_lt h
  by_cases agree : raw = p.filtered
  · rwa [Point.debounce_of_agree agree]
  · by_cases short : p.counter + 1 < depth
    · rwa [Point.debounce_of_short agree short]
    · rwa [Point.debounce_of_full agree (Nat.not_lt.mp short)]

/-! ## A good read, position by position -/

@[simp] theorem Image.filter_primed (i : Image) (L D : Nat) (bits : List Bool) : (i.filter L D bits).primed = true := rfl

/-- The positions past the chain's length stand (R54). -/
theorem Image.filter_point_beyond (i : Image) {L k : Nat} (h : L ≤ k) (D : Nat) (bits : List Bool) :
    (i.filter L D bits).point k = i.point k := by
  by_cases hk : k < 128
  · simp [Image.point, Image.filter, hk, Nat.not_lt.mpr h]
  · simp [Image.point, hk]

/-- A read of an unprimed chain primes each of its points (R55). -/
theorem Image.filter_point_unprimed {i : Image} (h : i.primed = false) {L k : Nat} (hL : k < L) (hk : k < 128)
    (D : Nat) (bits : List Bool) : (i.filter L D bits).point k = Point.prime (bits.getD k false) := by
  simp [Image.point, Image.filter, hk, hL, h]

/-- A read of a primed chain passes each of its points through the debounce (R56). -/
theorem Image.filter_point_primed {i : Image} (h : i.primed = true) {L k : Nat} (hL : k < L) (hk : k < 128)
    (D : Nat) (bits : List Bool) : (i.filter L D bits).point k = (i.point k).debounce D (bits.getD k false) := by
  simp [Image.point, Image.filter, hk, hL, h]

/-- A counter below the depth is below it after the read too (R53). -/
theorem Image.filter_counter_lt (i : Image) {L D k : Nat} (bits : List Bool) (hL : k < L) (hk : k < 128)
    (h : (i.point k).counter < D) : ((i.filter L D bits).point k).counter < D := by
  cases primed : i.primed with
  | false =>
    rw [Image.filter_point_unprimed primed hL hk]
    exact Nat.zero_lt_of_lt h
  | true =>
    rw [Image.filter_point_primed primed hL hk]
    exact Point.debounce_counter_lt h _

/-- Settles O33: a position past the length stands, one of an unprimed chain is primed, and one of a primed chain
follows the debounce case that its raw value and counter select. -/
theorem goodReadPrimesOrDebouncesEachPoint : Obligations.GoodReadPrimesOrDebouncesEachPoint := by
  intro i L D bits k hk
  refine ⟨i.filter_primed L D bits, fun beyond => i.filter_point_beyond beyond D bits,
    fun unprimed hL => Image.filter_point_unprimed unprimed hL hk D bits, ?agree, ?short, ?full,
    fun hL below => i.filter_counter_lt bits hL hk below⟩
  case agree =>
    intro primed hL agree
    rw [Image.filter_point_primed primed hL hk, Point.debounce_of_agree agree]
  case short =>
    intro primed hL differ short
    rw [Image.filter_point_primed primed hL hk, Point.debounce_of_short differ short]
  case full =>
    intro primed hL differ full
    rw [Image.filter_point_primed primed hL hk, Point.debounce_of_full differ full.ge]

end Sys2Proof.Machine
end

section
/-! SUPPORT. The Group Evaluator's two values: a group's masked value bit by bit (R60), which evaluations are trips in
each mode (R63, R64), and the statement on them. -/

namespace Sys2Proof.Machine

open Sys2Proof

/-- A bit of a group's masked value (R60). -/
theorem GroupRec.masked_getLsbD (g : GroupRec) (i : Image) {k : Nat} (hk : k < 16) :
    (g.masked i).getLsbD k =
      (decide (k < g.width) && (i.point (g.base + k)).filtered && g.mask.getLsbD k) := by
  rw [GroupRec.masked, BitVec.getLsbD_and, bitsOf_getLsbD _ _ _ hk]

/-! ## Trips by mode (R64) -/

section
variable {g : GroupRec} (value : Half)

theorem GroupRec.tripKind_of_diverge (h : g.mode = .diverge) :
    g.tripKind value = if g.state = .conform ∧ g.judge value = .diverged then some .diverge else none := by
  simp [GroupRec.tripKind, h]

theorem GroupRec.tripKind_of_returns (h : g.mode = .returns) :
    g.tripKind value = if g.state = .diverged ∧ g.judge value = .conform then some .returns else none := by
  simp [GroupRec.tripKind, h]

theorem GroupRec.tripKind_of_both (h : g.mode = .both) :
    g.tripKind value =
      if g.state = .conform ∧ g.judge value = .diverged then some .diverge
      else if g.state = .diverged ∧ g.judge value = .conform then some .returns else none := by
  simp [GroupRec.tripKind, h]

theorem GroupRec.tripKind_of_step (h : g.mode = .step) :
    g.tripKind value = if g.state ≠ .unset ∧ value ≠ g.last then some .step else none := by
  simp [GroupRec.tripKind, h]

/-- The evaluation that leaves UNSET is no trip in any mode (R63). -/
theorem GroupRec.tripKind_of_unset (h : g.state = .unset) : g.tripKind value = none := by
  cases mode : g.mode with
  | diverge => simp [GroupRec.tripKind_of_diverge value mode, h]
  | returns => simp [GroupRec.tripKind_of_returns value mode, h]
  | both => simp [GroupRec.tripKind_of_both value mode, h]
  | step => simp [GroupRec.tripKind_of_step value mode, h]

end

/-- Settles O34: the masked value's bits, the silence from UNSET, and the row of each mode; the state that the masked
value makes is the evaluator's own judgement of it. -/
theorem tripsFollowMaskedValueAndMode : Obligations.TripsFollowMaskedValueAndMode := by
  intro g i value new hnew
  have judged : new = g.judge value := hnew
  subst judged
  exact ⟨fun _ _ hk => g.masked_getLsbD i hk, GroupRec.tripKind_of_unset value, GroupRec.tripKind_of_diverge value,
    GroupRec.tripKind_of_returns value, GroupRec.tripKind_of_both value, GroupRec.tripKind_of_step value⟩

end Sys2Proof.Machine
end

section
/-! SUPPORT. Change records and the trip queue (R79 to R86): what each flag is after a cause, what a generation counts
and calls for before the record meets the queue, what a drop and a freed place do, and the statements on them. -/

namespace Sys2Proof.Machine

open Sys2Proof

/-! ## One flag after a cause -/

/-- No two flags share a bit (R166). -/
theorem Flag.mask_and_mask (f g : Flag) : f.mask &&& g.mask = if g = f then g.mask else 0 := by
  cases f <;> cases g <;> rfl

/-- Every flag has a bit (R166). -/
theorem Flag.mask_ne_zero (f : Flag) : f.mask ≠ 0 := by
  cases f <;> decide

/-- A cause sets its own flag and no other (R166). -/
@[simp] theorem State.flagged_raise (s : State) (f g : Flag) :
    (s.raise f).flagged g = (s.flagged g || decide (g = f)) := by
  have bits : (s.raise f).flagged g = ((s.alerts.flags &&& g.mask ||| f.mask &&& g.mask) != 0) := by
    rw [← BitVec.and_or_distrib_right]
    rfl
  rw [bits, Flag.mask_and_mask]
  by_cases same : g = f
  · rw [if_pos same, decide_eq_true same, Bool.or_true, bne_iff_ne]
    exact fun zero => g.mask_ne_zero (BitVec.or_eq_zero_iff.mp zero).2
  · simp [same, State.flagged]

/-- Nothing on the record path sets a flag but SEALED (R86, R102). -/
theorem State.recordPath_flagged {s t : State} (path : s.recordPath t) {f : Flag} (notSealed : f ≠ .sealed) :
    t.flagged f = s.flagged f := by
  obtain ⟨r, w, p, flags, rfl, -, rfl | rfl⟩ := path
  · rfl
  · have raised := s.flagged_raise .sealed f
    rwa [decide_eq_false notSealed, Bool.or_false] at raised

/-- The flags a record calls for (R86, R170). -/
theorem State.flagged_raiseFor (s : State) (r : Record) (f : Flag) :
    (s.raiseFor r).flagged f = (s.flagged f || (decide (f = .trip) && decide (s.alerts.level.toNat < r.cls.val)) ||
      (decide (f = .chain) && (r.kind == .chainFault || r.kind == .chainLost))) := by
  unfold State.raiseFor
  by_cases above : s.alerts.level.toNat < r.cls.val <;> cases r.kind <;> simp [above]

/-! ## A generation before the record meets the queue -/

/-- The state a generated record meets the trip queue in: the record counted, and the flags it calls for set
(R79, R86). -/
def State.announced (s : State) (r : Record) : State :=
  (s.setRecords { s.records with generated := s.records.generated + 1 }).raiseFor r

/-- With a place in the trip queue the record is appended (R79, R81). -/
theorem State.generate_of_room {s : State} (room : s.records.queue.length < 12) (r : Record) :
    s.generate r = ((s.announced r).appendRecord r).pump := if_pos room

/-- With the trip queue full the record is dropped (R83). -/
theorem State.generate_of_full {s : State} (full : 12 ≤ s.records.queue.length) (r : Record) :
    s.generate r = (s.announced r).dropRecord := if_neg (Nat.not_lt.mpr full)

/-- The announcement of a record changes the count of generated records and flags alone. -/
theorem State.announced_changes (s : State) (r : Record) : ∃ f, s.announced r =
    { s with records := { s.records with generated := s.records.generated + 1 }
             alerts := { s.alerts with flags := f } } :=
  ⟨_, State.raiseFor_eq ..⟩

@[simp] theorem State.announced_records (s : State) (r : Record) :
    (s.announced r).records = { s.records with generated := s.records.generated + 1 } := by
  simp [State.announced, State.raiseFor_eq]

@[simp] theorem State.announced_run (s : State) (r : Record) : (s.announced r).run = s.run := by
  simp [State.announced, State.raiseFor_eq]

@[simp] theorem State.announced_pages (s : State) (r : Record) : (s.announced r).pages = s.pages := by
  simp [State.announced, State.raiseFor_eq]

@[simp] theorem State.announced_window (s : State) (r : Record) : (s.announced r).window = s.window := by
  simp [State.announced, State.raiseFor_eq]

/-- The flags after the announcement are those the record calls for (R86, R170). -/
theorem State.flagged_announced (s : State) (r : Record) (f : Flag) :
    (s.announced r).flagged f = (s.flagged f || (decide (f = .trip) && decide (s.alerts.level.toNat < r.cls.val)) ||
      (decide (f = .chain) && (r.kind == .chainFault || r.kind == .chainLost))) :=
  State.flagged_raiseFor ..

/-! ## A drop (R83) -/

/-- The counts of a drop: no sequence is given, and pending holds at 65535. -/
theorem State.dropRecord_records (s : State) : s.dropRecord.records = { s.records with
    lost := s.records.lost + 1
    overrun := if s.records.overrun = 65535 then 65535 else s.records.overrun + 1
    episodes := if s.records.overrun = 0 then s.records.episodes + 1 else s.records.episodes } := by
  unfold State.dropRecord
  by_cases first : s.records.overrun = 0
  · rw [if_pos first]; rfl
  · rw [if_neg first]; rfl

/-- A drop sets OVERRUN when it begins an episode, and no other flag. -/
theorem State.flagged_dropRecord (s : State) (f : Flag) :
    s.dropRecord.flagged f = (s.flagged f || (s.records.overrun == 0 && decide (f = .overrun))) := by
  unfold State.dropRecord
  by_cases first : s.records.overrun = 0
  · rw [if_pos first, State.flagged_raise, beq_iff_eq.mpr first, Bool.true_and]
    rfl
  · rw [if_neg first, beq_false_of_ne first, Bool.false_and, Bool.or_false]
    rfl

/-! ## A search that finds nothing -/

/-- A cyclic order of n numbers holds none from n on. -/
theorem lt_of_mem_cyclicAfter {n cursor i : Nat} (h : i ∈ cyclicAfter n cursor) : i < n := by
  obtain ⟨k, hk, rfl⟩ := List.mem_map.mp h
  exact Nat.mod_lt _ (Nat.zero_lt_of_lt (List.mem_range.mp hk))

/-- With none of the entries in force FREE the search finds nothing (R98). -/
theorem State.searchPage_eq_none {s : State} (entries : s.pageCount ≤ 40)
    (noneFree : ∀ p : PageNo, p.val < s.pageCount → s.pageOwner p ≠ pageFree) : s.searchPage = none := by
  rw [State.searchPage, List.find?_eq_none]
  intro p hp
  obtain ⟨i, hi, rfl⟩ := List.mem_map.mp hp
  have bound : i < s.pageCount := lt_of_mem_cyclicAfter hi
  have number : (Fin.ofNat 40 i).val = i := Nat.mod_eq_of_lt (bound.trans_le entries)
  simpa using noneFree (Fin.ofNat 40 i) (number.symm ▸ bound)

/-- What a search finds depends on the geometry, the cursor and the window alone. -/
theorem State.searchPage_congr {s t : State} (run : t.run = s.run) (pages : t.pages = s.pages)
    (window : t.window = s.window) : t.searchPage = s.searchPage := by
  unfold State.searchPage State.pageCount State.pageOwner
  rw [run, pages, window]

/-! ## A generation -/

/-- A record generated with a place in the queue, and no page to go to, waits at the tail (R79, R80, R97). -/
theorem State.generate_of_noPage {s : State} (room : s.records.queue.length < 12) (unheld : s.pages.current = none)
    (unfound : s.searchPage = none) (r : Record) : s.generate r = (s.announced r).appendRecord r := by
  rw [State.generate_of_room room]
  refine State.pump_of_noPage (by simpa using unheld) ?_
  exact (State.searchPage_congr (by simp) (by simp) (by simp)).trans unfound

/-- The flags after a generation, SEALED apart: those the record calls for, and OVERRUN when its drop begins an
episode. -/
theorem State.flagged_generate (s : State) (r : Record) {f : Flag} (notSealed : f ≠ .sealed) :
    (s.generate r).flagged f = ((s.announced r).flagged f ||
      (decide (12 ≤ s.records.queue.length) && s.records.overrun == 0 && decide (f = .overrun))) := by
  rcases Nat.lt_or_ge s.records.queue.length 12 with room | full
  · rw [State.generate_of_room room, State.recordPath_flagged (State.pump_path _) notSealed,
      decide_eq_false (Nat.not_le.mpr room), Bool.false_and, Bool.false_and, Bool.or_false]
    rfl
  · rw [State.generate_of_full full, State.flagged_dropRecord, State.announced_records, decide_eq_true full,
      Bool.true_and]

/-- A flag that is neither SEALED nor OVERRUN is after a generation what the record calls for, whether the record is
appended or dropped (R86). -/
theorem State.flagged_generate_of_ne {f : Flag} (notSealed : f ≠ .sealed) (notOverrun : f ≠ .overrun) (s : State)
    (r : Record) : (s.generate r).flagged f =
      (s.flagged f || (decide (f = .trip) && decide (s.alerts.level.toNat < r.cls.val)) ||
        (decide (f = .chain) && (r.kind == .chainFault || r.kind == .chainLost))) := by
  rw [State.flagged_generate s r notSealed, decide_eq_false notOverrun, Bool.and_false, Bool.or_false,
    State.flagged_announced]

/-! ## A freed place (R84) -/

/-- With no losses pending a freed place stays free. -/
theorem State.placeOverrun_of_none {s : State} (h : s.records.overrun = 0) : s.placeOverrun = s := if_pos h

/-- With losses pending the OVERRUN record takes the freed place and ends the episode. -/
theorem State.placeOverrun_of_pending {s : State} (h : s.records.overrun ≠ 0) :
    s.placeOverrun = { s with records := { s.records with
      queue := s.records.queue ++ [s.overrunRecord], seq := s.records.seq + 1
      generated := s.records.generated + 1, overrun := 0 } } := if_neg h

/-! ## The statements -/

/-- Settles O38: removing the head counts the record written, which leaves what is pending, and the freed place then
has its two cases. -/
theorem freedPlaceTakesOverrunRecord : Obligations.FreedPlaceTakesOverrunRecord := by
  intro s head rest queue
  constructor
  · intro unpending
    rw [State.removeHead, queue]
    exact State.placeOverrun_of_none unpending
  · intro pending
    rw [State.removeHead, queue]
    exact State.placeOverrun_of_pending pending

/-- Settles O36: with a place and no page the record stays where it was appended; with the queue full the drop's counts
and its one flag are all that follows the announcement. -/
theorem generatedRecordIsQueuedOrDropped : Obligations.GeneratedRecordIsQueuedOrDropped := by
  intro s r
  constructor
  case left =>
    intro room unheld entries noneFree
    rw [State.generate_of_noPage room unheld (State.searchPage_eq_none entries noneFree)]
    simp
  case right =>
    intro full
    refine ⟨_, State.generate_of_full full.ge r, ?frame, ?counts, ?flag⟩
    case frame =>
      obtain ⟨f, announced⟩ := s.announced_changes r
      obtain ⟨q, g, dropped, -⟩ := (s.announced r).dropRecord_changes
      rw [dropped, announced]
    case counts => rw [State.dropRecord_records, State.announced_records]
    case flag => simp [State.flagged_dropRecord, State.flagged_announced]

/-- Settles O39: each flag but SEALED and OVERRUN is what the record calls for; a record of class 0 is above no alert
level, and the enables and the level are no item of a generation. -/
theorem generationSetsTripAndChainFlags : Obligations.GenerationSetsTripAndChainFlags := by
  intro s r
  have trip : (s.generate r).flagged .trip = (s.flagged .trip || decide (s.alerts.level.toNat < r.cls.val)) := by
    simp [State.flagged_generate_of_ne]
  have chain : (s.generate r).flagged .chain = (s.flagged .chain || r.kind == .chainFault || r.kind == .chainLost) := by
    simp [State.flagged_generate_of_ne, Bool.or_assoc]
  obtain ⟨q, w, p, f, generated, -⟩ := s.generate_changes r
  refine ⟨trip, chain, fun lowest => ?_, ?others, by rw [generated], by rw [generated]⟩
  · simp [trip, lowest]
  case others =>
    rintro f (rfl | rfl | rfl) <;> simp [State.flagged_generate_of_ne]

end Sys2Proof.Machine
end

section
/-! SUPPORT. What ties a step to the commands: the front of the queue, which terms complete and which fault, and the laws
at reset. -/

namespace Sys2Proof.Machine

open Sys2Proof

/-- Settles O1: the front of the queue is the first branch of a step. -/
theorem stepRunsFrontCommand : Obligations.StepRunsFrontCommand := fun _ _ _ => rfl

/-- A FRAME_EXPIRY is well formed when no block is named twice (R156). -/
theorem execFrameExpiry_of_nodup {order : List FrameBlock} (h : order.Nodup) (s : State) :
    exec (.frameExpiry order) s = .next (s.finishFrame.expireFrame order) :=
  if_pos ((blocksOnce_iff order).mpr h)

/-- An ignored register write that is one is taken as any register write (R152, R179). -/
theorem exec_registerWriteIgnored_of_wf {number : Byte} {value : Half}
    (h : (Instr.registerWriteIgnored number value).wf = true) (s : State) :
    exec (.registerWriteIgnored number value) s = .next (s.hostRegisterWrite number value) := if_pos h

/-- A meaning that is one of two states completes. -/
theorem completes_ite {p : Prop} [Decidable p] (a b : State) :
    ∃ t, (if p then .next a else .next b : Host.Outcome State Fault Refusal) = .next t := by
  split
  · exact ⟨a, rfl⟩
  · exact ⟨b, rfl⟩

/-- Settles O2: two commands check their term, and every other meaning answers a state in each of its branches. -/
theorem everyCommandCompletes : Obligations.EveryCommandCompletes := by
  intro c s
  refine ⟨fun wf => ?completes, fun ill => ?faults⟩
  case faults =>
    cases c with
    | registerWriteIgnored number value => exact if_neg (by rw [ill]; exact Bool.false_ne_true)
    | frameExpiry order => exact if_neg (by rw [ill]; exact Bool.false_ne_true)
    | _ => exact absurd ill (by simp [Instr.wf])
  case completes =>
    cases c with
    | registerWriteIgnored number value => exact ⟨_, exec_registerWriteIgnored_of_wf wf s⟩
    | frameExpiry order => exact ⟨_, if_pos wf⟩
    | nresetRise => exact completes_ite ..
    | initEnd => exact completes_ite ..
    | idleCoolDown => exact completes_ite ..
    | timerSeal => exact completes_ite ..
    | pageAcquisition => exact completes_ite ..
    | overrunRecord => exact completes_ite ..
    | transactionBegin => exact completes_ite ..
    | windowWrite first data =>
      simp only [exec, execWindowWrite]
      split <;> [split; skip] <;> exact ⟨_, rfl⟩
    | windowRead first =>
      simp only [exec, execWindowRead]
      split <;> [split; skip] <;> exact ⟨_, rfl⟩
    | periodExpiry c =>
      simp only [exec, execPeriodExpiry]
      split <;> [split; skip] <;> exact ⟨_, rfl⟩
    | settleCompletion c =>
      simp only [exec, execSettleCompletion]
      split <;> [skip; split] <;> exact ⟨_, rfl⟩
    | excitationGrant =>
      simp only [exec, execExcitationGrant]
      split <;> exact ⟨_, rfl⟩
    | readCompletion =>
      simp only [exec, execReadCompletion]
      split <;> [split; skip] <;> exact ⟨_, rfl⟩
    | bitTime inputs =>
      simp only [exec, execBitTime]
      split <;> exact ⟨_, rfl⟩
    | _ => exact ⟨_, rfl⟩

end Sys2Proof.Machine
end

section
/-! SUPPORT. The longer laws with a name for each of their clauses, and the laws at reset. -/

namespace Sys2Proof.Machine

open Sys2Proof

/-! ## The laws by their clauses -/

/-- The blocks' items at their hard-reset values (R163): what `initLaw` says of INIT. -/
structure State.AtReset (s : State) : Prop where
  frameTimer : s.run.frameTimer = none
  geometry : s.run.geometry = none
  signature : s.run.signature = 0
  epoch : s.run.epoch = 0
  stamp : s.run.stamp = 0
  refusal : s.run.refusal = 0
  frame : s.frame = FrameWork.empty
  chains : s.chains = Vector.replicate 16 ChainRec.reset
  lru : s.lru = []
  due : s.due = []
  read : s.read = none
  images : s.images = Vector.replicate 16 Image.reset
  groups : s.groups = Vector.replicate 64 GroupRec.reset
  records : s.records = RecordUnit.reset
  pages : s.pages = PageWriter.reset
  taken : s.requests.taken = []
  cursor : s.requests.cursor = 15
  flags : s.alerts.flags = 0
  enables : s.alerts.enables = 0
  level : s.alerts.level = 0

theorem State.initLaw_iff {s : State} : s.initLaw ↔
    (s.run.state = .init → s.AtReset) ∧ (s.run.nresetLow = true → s.run.state = .init ∧ s.run.zeroing = none) := by
  constructor
  · rintro ⟨items, low⟩
    refine ⟨fun init => ?_, low⟩
    obtain ⟨h1, h2, h3, h4, h5, h6, h7, h8, h9, h10, h11, h12, h13, h14, h15, h16, h17, h18, h19, h20⟩ := items init
    exact ⟨h1, h2, h3, h4, h5, h6, h7, h8, h9, h10, h11, h12, h13, h14, h15, h16, h17, h18, h19, h20⟩
  · rintro ⟨items, low⟩
    refine ⟨fun init => ?_, low⟩
    have r := items init
    exact ⟨r.frameTimer, r.geometry, r.signature, r.epoch, r.stamp, r.refusal, r.frame, r.chains, r.lru, r.due, r.read,
      r.images, r.groups, r.records, r.pages, r.taken, r.cursor, r.flags, r.enables, r.level⟩

/-- The clauses of `takenLaw`. -/
structure State.Taken (s : State) : Prop where
  atMostSix : s.requests.taken.length ≤ 6
  slotsNodup : (s.requests.taken.map Held.slot).Nodup
  readsTaken : ∀ h ∈ s.requests.taken, s.slotOwner h.slot = slotTaken
  listed : ∀ h ∈ s.requests.taken, h.slot ∈ (s.chain h.request.chain).waiting.slots
  listNodup : ∀ c : ChainNo, (s.chain c).waiting.slots.Nodup
  listTaken : ∀ (c : ChainNo), ∀ k ∈ (s.chain c).waiting.slots, ∃ h ∈ s.requests.taken, h.slot = k ∧ h.request.chain = c
  attachedListed : ∀ rd ∈ s.read, ∀ k ∈ rd.attached, k ∈ (s.chain rd.chain).waiting.slots
  sweepRunning : s.run.state ≠ .running → s.frame.sweep = []
  drainingBelongs : s.run.state = .draining → ∀ h ∈ s.requests.taken, s.belongsToRead h.slot = true
  idleNone : s.run.state = .idle → s.requests.taken = []

theorem State.takenLaw_iff {s : State} : s.takenLaw ↔ s.Taken := by
  constructor
  · rintro ⟨six, nodup, held, lists, attached, sweep, draining, idle⟩
    exact ⟨six, nodup, fun h m => (held h m).1, fun h m => (held h m).2, fun c => (lists c).1, fun c => (lists c).2,
      attached, sweep, draining, idle⟩
  · intro h
    exact ⟨h.atMostSix, h.slotsNodup, fun x m => ⟨h.readsTaken x m, h.listed x m⟩,
      fun c => ⟨h.listNodup c, h.listTaken c⟩, h.attachedListed, h.sweepRunning, h.drainingBelongs, h.idleNone⟩

/-- The clauses of `warmLaw` but the last, with the chain that the reader is on given by `reader`: between a hand-back
and the end of the read the two differ. -/
structure State.Warmth (s : State) (reader : Option ChainNo) : Prop where
  lruNodup : s.lru.Nodup
  lru_iff : ∀ c : ChainNo, c ∈ s.lru ↔ (s.chain c).state = .warm
  dueNodup : s.due.Nodup
  dueAlive : ∀ c ∈ s.due, (s.chain c).state ≠ .off ∧ (s.chain c).state ≠ .lost
  expiriesAlive : ∀ c ∈ s.frame.expiries, (s.chain c).state ≠ .off ∧ (s.chain c).state ≠ .lost
  settlingDue : ∀ c : ChainNo, (s.chain c).state = .settling → c ∈ s.due
  settle_iff : ∀ c : ChainNo, (s.chain c).settle.isSome = true ↔ (s.chain c).state = .settling
  reading_iff : ∀ c : ChainNo, (s.chain c).state = .reading ↔ reader = some c
  withinLimit : s.run.state = .running → s.warmCount ≤ s.warmLimit
  dueRunning : s.run.state ≠ .running → s.due = []
  frameRunning : s.run.state ≠ .running → s.frame.expiries = [] ∧ s.frame.coolDowns = [] ∧ s.frame.sweep = []
  excitedRunning : s.run.state ≠ .running → ∀ c : ChainNo, (s.chain c).state.excited = true → (s.chain c).state = .reading

theorem State.warmLaw_iff {s : State} : s.warmLaw ↔
    s.Warmth (s.read.map ReadInProgress.chain) ∧ (s.run.state = .idle ∨ s.run.state = .init → s.read = none) := by
  constructor
  · rintro ⟨nodup, lru, dueNodup, due, expiries, settling, settle, reading, limit, outside, idle⟩
    exact ⟨⟨nodup, lru, dueNodup, due, expiries, settling, settle, reading, limit, fun n => (outside n).1,
      fun n => ⟨(outside n).2.1, (outside n).2.2.1, (outside n).2.2.2.1⟩, fun n => (outside n).2.2.2.2⟩, idle⟩
  · rintro ⟨h, idle⟩
    refine ⟨h.lruNodup, h.lru_iff, h.dueNodup, h.dueAlive, h.expiriesAlive, h.settlingDue, h.settle_iff, h.reading_iff,
      h.withinLimit, fun n => ?_, idle⟩
    obtain ⟨expiries, coolDowns, sweep⟩ := h.frameRunning n
    exact ⟨h.dueRunning n, expiries, coolDowns, sweep, h.excitedRunning n⟩

/-! ## Tables at their hard-reset values -/

theorem State.chain_of_reset {s : State} (h : s.chains = Vector.replicate 16 ChainRec.reset) (c : ChainNo) :
    s.chain c = ChainRec.reset := by
  simp [State.chain, h]

theorem State.image_of_reset {s : State} (h : s.images = Vector.replicate 16 Image.reset) (c : ChainNo) :
    s.image c = Image.reset := by
  simp [State.image, h]

theorem State.group_of_reset {s : State} (h : s.groups = Vector.replicate 64 GroupRec.reset) (n : GroupNo) :
    s.group n = GroupRec.reset := by
  simp [State.group, h]

/-- Every point of an image at its hard-reset values is at its own (R53). -/
@[simp] theorem Image.reset_point (k : Nat) : Image.reset.point k = Point.reset := by
  simp [Image.point, Image.reset]

/-- With the chains at their hard-reset values and no queue or frame work no chain is in the warm set. -/
theorem State.warmth_of_cleared {s : State} (chains : s.chains = Vector.replicate 16 ChainRec.reset) (lru : s.lru = [])
    (due : s.due = []) (frame : s.frame = FrameWork.empty) : s.Warmth none := by
  constructor <;> simp [State.chain_of_reset chains, lru, due, frame, FrameWork.empty, ChainRec.reset,
    ChainState.excited, State.warmCount]

/-- With every table at its hard-reset values no chain is in the warm set. -/
theorem State.warmth_of_reset {s : State} (r : s.AtReset) : s.Warmth none :=
  State.warmth_of_cleared r.chains r.lru r.due r.frame

/-- With every table at its hard-reset values no slot is taken. -/
theorem State.taken_of_reset {s : State} (r : s.AtReset) : s.Taken := by
  have frame := r.frame
  constructor <;> simp [State.chain_of_reset r.chains, r.taken, r.read, frame, FrameWork.empty, ChainRec.reset,
    WaitList.slots]

theorem State.groupLaw_of_reset {s : State} (h : s.groups = Vector.replicate 64 GroupRec.reset) : s.groupLaw := by
  intro n defined
  rw [State.group_of_reset h] at defined
  cases defined

theorem State.imageLaw_of_reset {s : State} (h : s.images = Vector.replicate 16 Image.reset) (idle : s.read = none) :
    s.imageLaw := by
  refine ⟨fun c k _ => ?_, fun c _ => State.image_of_reset h c, fun rd reading => ?_⟩
  · simp [State.image_of_reset h, Point.reset]
  · simp [idle] at reading

theorem State.tripQueueLaw_of_reset {s : State} (hr : s.records = RecordUnit.reset) (hp : s.pages = PageWriter.reset) :
    s.tripQueueLaw := by
  refine ⟨by simp [hr, RecordUnit.reset], fun pending => absurd (by rw [hr]; rfl) pending, fun p held => ?_⟩
  rw [hp] at held
  cases held

/-- The part at reset. -/
theorem State.reset_atReset : State.reset.AtReset := by
  constructor <;> rfl

/-- Settles O51: each law is read off the hard-reset values. -/
theorem resetSatisfiesEveryLaw : Obligations.ResetSatisfiesEveryLaw := by
  have r := State.reset_atReset
  have pin : State.reset.pinLaw := by rintro (running | draining) <;> contradiction
  exact ⟨rfl, State.initLaw_iff.mpr ⟨fun _ => r, fun _ => ⟨rfl, rfl⟩⟩, rfl, State.tripQueueLaw_of_reset rfl rfl,
    State.takenLaw_iff.mpr (State.taken_of_reset r), State.warmLaw_iff.mpr ⟨State.warmth_of_reset r, fun _ => rfl⟩,
    State.groupLaw_of_reset rfl, pin, State.imageLaw_of_reset rfl rfl⟩

end Sys2Proof.Machine
end

section
/-! SUPPORT. The operations of the chains, the requests and the records do not read the outstanding frame work, so it may
be replaced before or after them; and the work of each block is that of its first item, then the rest. -/

namespace Sys2Proof.Machine

open Sys2Proof

/-! ## The outstanding frame work, replaced before or after -/

section
variable (s : State) (w : FrameWork)

@[simp] theorem State.setFrame_setFrame (v : FrameWork) : (s.setFrame v).setFrame w = s.setFrame w := rfl
@[simp] theorem State.setFrame_self : s.setFrame s.frame = s := rfl

theorem State.grantOne_setFrame : (s.setFrame w).grantOne = s.grantOne.map fun t => t.setFrame w := by
  unfold State.grantOne
  have cold : (s.setFrame w).dueCold = s.dueCold := rfl
  have victim : (s.setFrame w).victim = s.victim := rfl
  have room : ((s.setFrame w).warmCount < (s.setFrame w).warmLimit) = (s.warmCount < s.warmLimit) := rfl
  simp only [cold, victim, room]
  cases s.dueCold with
  | none => rfl
  | some c =>
    dsimp only
    split
    · rfl
    · cases s.victim <;> rfl

theorem State.grantLoop_setFrame (n : Nat) : (s.setFrame w).grantLoop n = (s.grantLoop n).setFrame w := by
  induction n generalizing s with
  | zero => rfl
  | succ n ih =>
    rw [State.grantLoop, State.grantLoop, State.grantOne_setFrame]
    cases s.grantOne with
    | none => rfl
    | some t => exact ih t

theorem State.grantTest_setFrame : (s.setFrame w).grantTest = s.grantTest.setFrame w := s.grantLoop_setFrame w 16

theorem State.readerChoice_setFrame : (s.setFrame w).readerChoice = s.readerChoice.setFrame w := by
  unfold State.readerChoice
  have read : (s.setFrame w).read = s.read := rfl
  have geometry : (s.setFrame w).run.geometry = s.run.geometry := rfl
  have warm : (s.setFrame w).dueWarm = s.dueWarm := rfl
  rw [read, geometry, warm]
  cases s.read <;> cases s.run.geometry <;> cases s.dueWarm <;> rfl

theorem State.joinDue_setFrame (c : ChainNo) : (s.setFrame w).joinDue c = (s.joinDue c).setFrame w := by
  unfold State.joinDue
  have due : (s.setFrame w).due = s.due := rfl
  have chain : (s.setFrame w).chain c = s.chain c := rfl
  rw [due, chain]
  by_cases h : s.due.contains c = true
  · rw [if_pos h, if_pos h]
  · rw [if_neg h, if_neg h]
    cases (s.chain c).state with
    | cold => exact State.grantTest_setFrame { s with due := s.due ++ [c] } w
    | warm => exact State.readerChoice_setFrame { s with due := s.due ++ [c] } w
    | off | settling | reading | lost => rfl

theorem State.periodExpired_setFrame (c : ChainNo) :
    (s.setFrame w).periodExpired c = (s.periodExpired c).setFrame w := by
  unfold State.periodExpired
  have due : (s.setFrame w).due = s.due := rfl
  rw [due, State.joinDue_setFrame]
  split <;> rfl

theorem State.examine_setFrame (c : ChainNo) : (s.setFrame w).examine c = (s.examine c).setFrame w := by
  unfold State.examine
  have coolable : (s.setFrame w).coolable c = s.coolable c := rfl
  have chain : (s.setFrame w).chain c = s.chain c := rfl
  rw [coolable, chain]
  split
  · split
    · rfl
    · exact State.grantTest_setFrame (s.chill c .cold) w
  · rfl

theorem State.answer_setFrame (k : SlotNo) (a : Answer) : (s.setFrame w).answer k a = (s.answer k a).setFrame w := by
  unfold State.answer State.unlist
  have held : (s.setFrame w).heldOf k = s.heldOf k := rfl
  rw [held]
  cases s.heldOf k <;> rfl

theorem State.reconfigure_setFrame (c : ChainNo) (d : ChainDef) : (s.setFrame w).reconfigure c d =
    (s.reconfigure c d).setFrame { w with expiries := w.expiries.filter (· != c) } := by
  unfold State.reconfigure
  have chain : (s.setFrame w).chain c = s.chain c := rfl
  rw [chain]
  dsimp only
  split
  · exact (State.grantTest_setFrame
      (((((s.chill c .off).leaveDue c).modChain c fun r => r.reconfigured d).unprime c).cancelExpiry c)
      { w with expiries := w.expiries.filter (· != c) })
  · rfl

theorem State.park_setFrame (c : ChainNo) : (s.setFrame w).park c = (s.park c).setFrame w := by
  unfold State.park
  have chain : (s.setFrame w).chain c = s.chain c := rfl
  rw [chain]
  dsimp only
  split
  · exact State.grantTest_setFrame ((s.chill c .cold).leaveDue c) w
  · rfl

/-- What is on the record path of `s` onto `s` with other frame work is itself with that frame work. -/
theorem State.onto_setFrame {s t : State} (path : s.recordPath t) (w : FrameWork) :
    t.onto (s.setFrame w) = t.setFrame w := by
  obtain ⟨r, m, p, f, rfl, -, -⟩ := path
  rfl

theorem State.pump_setFrame : (s.setFrame w).pump = s.pump.setFrame w :=
  (State.pumpLoop_onto (2 * s.records.queue.length + 4) s (s.setFrame w)).trans (State.onto_setFrame s.pump_path w)

theorem State.closePage_setFrame (cause : SealCause) :
    (s.setFrame w).closePage cause = (s.closePage cause).setFrame w := by
  have sealed : (s.setFrame w).sealPage cause = (s.sealPage cause).setFrame w :=
    (State.sealPage_onto s (s.setFrame w) cause).trans (State.onto_setFrame (s.sealPage_path cause) w)
  unfold State.closePage
  rw [sealed, State.pump_setFrame]

end

/-! ## A take, and the frame work of the sweep -/

/-- The outstanding sweep replaced. -/
def State.setSweep (s : State) (l : List SlotNo) : State := s.setFrame { s.frame with sweep := l }

@[simp] theorem State.setSweep_frame (s : State) (l : List SlotNo) : (s.setSweep l).frame = { s.frame with sweep := l } :=
  rfl

@[simp] theorem State.setSweep_setSweep (s : State) (l m : List SlotNo) : (s.setSweep l).setSweep m = s.setSweep m := rfl

/-- Where frame work is carried over unread, so is the sweep. -/
theorem State.setSweep_of_setFrame {f : State → State} (frame : ∀ s, (f s).frame = s.frame)
    (carries : ∀ s w, f (s.setFrame w) = (f s).setFrame w) (s : State) (l : List SlotNo) :
    f (s.setSweep l) = (f s).setSweep l := by
  unfold State.setSweep
  rw [carries, frame]

section
variable (s : State) (k : SlotNo) (r : Request) (l : List SlotNo)

theorem State.answer_frame (a : Answer) : (s.answer k a).frame = s.frame := by
  obtain ⟨ch, h⟩ := s.answer_changes k a
  rw [h]

theorem State.joinDue_frame (c : ChainNo) : (s.joinDue c).frame = s.frame := by
  obtain ⟨⟨ch, l, q, rd, h⟩, -⟩ := s.joinDue_changes c
  rw [h]

theorem State.park_frame (c : ChainNo) : (s.park c).frame = s.frame := by
  obtain ⟨ch, l, h, -⟩ := s.park_changes c
  rw [h]

theorem State.closePage_frame (cause : SealCause) : (s.closePage cause).frame = s.frame := by
  obtain ⟨r, w, p, f, h, -⟩ := s.closePage_path cause
  rw [h]

theorem State.reconfigure_frame (c : ChainNo) (d : ChainDef) :
    (s.reconfigure c d).frame = { s.frame with expiries := s.frame.expiries.filter (· != c) } := by
  obtain ⟨ch, l, h, -⟩ := s.reconfigure_changes c d
  rw [h]

theorem State.answer_setSweep (a : Answer) : (s.setSweep l).answer k a = (s.answer k a).setSweep l := by
  rw [State.setSweep, State.answer_setFrame, State.setSweep, State.answer_frame]

theorem State.reconfigure_setSweep (c : ChainNo) (d : ChainDef) :
    (s.setSweep l).reconfigure c d = (s.reconfigure c d).setSweep l := by
  rw [State.setSweep, State.reconfigure_setFrame, State.setSweep, State.reconfigure_frame]

theorem State.park_setSweep (c : ChainNo) : (s.setSweep l).park c = (s.park c).setSweep l := by
  rw [State.setSweep, State.park_setFrame, State.setSweep, State.park_frame]

theorem State.joinDue_setSweep (c : ChainNo) : (s.setSweep l).joinDue c = (s.joinDue c).setSweep l := by
  rw [State.setSweep, State.joinDue_setFrame, State.setSweep, State.joinDue_frame]

theorem State.closePage_setSweep (cause : SealCause) :
    (s.setSweep l).closePage cause = (s.closePage cause).setSweep l := by
  rw [State.setSweep, State.closePage_setFrame, State.setSweep, State.closePage_frame]

theorem State.actSetChain_setSweep : (s.setSweep l).actSetChain k r = (s.actSetChain k r).setSweep l := by
  have checks : (s.setSweep l).checkSetChain r = s.checkSetChain r := rfl
  have chain : (s.setSweep l).chain r.chain = s.chain r.chain := rfl
  unfold State.actSetChain
  rw [checks, chain]
  cases s.checkSetChain r with
  | some a => exact s.answer_setSweep k l a
  | none =>
    dsimp only
    split
    · rfl
    · rw [State.reconfigure_setSweep, State.answer_setSweep]

theorem State.actReadChain_setSweep : (s.setSweep l).actReadChain k r = (s.actReadChain k r).setSweep l := by
  have checks : (s.setSweep l).checkReadChain r = s.checkReadChain r := rfl
  unfold State.actReadChain
  rw [checks]
  cases s.checkReadChain r with
  | some a => exact s.answer_setSweep k l a
  | none => exact State.joinDue_setSweep (s.modChain r.chain fun c => { c with waiting := c.waiting.push k }) l r.chain

theorem State.actParkChain_setSweep : (s.setSweep l).actParkChain k r = (s.actParkChain k r).setSweep l := by
  have checks : (s.setSweep l).checkParkChain r = s.checkParkChain r := rfl
  have chain : (s.setSweep l).chain r.chain = s.chain r.chain := rfl
  unfold State.actParkChain
  rw [checks, chain]
  cases s.checkParkChain r with
  | some a => exact s.answer_setSweep k l a
  | none =>
    dsimp only
    split
    · rfl
    · rw [State.park_setSweep, State.answer_setSweep]

theorem State.actSetGroup_setSweep : (s.setSweep l).actSetGroup k r = (s.actSetGroup k r).setSweep l := by
  have checks : (s.setSweep l).checkSetGroup r = s.checkSetGroup r := rfl
  have define : (s.setSweep l).define r = (s.define r).setSweep l := by
    have image : (s.setSweep l).image r.groupRec.chain = s.image r.groupRec.chain := rfl
    unfold State.define
    dsimp only
    rw [image]
    split <;> rfl
  unfold State.actSetGroup
  rw [checks, define]
  cases s.checkSetGroup r with
  | some a => exact s.answer_setSweep k l a
  | none => exact State.answer_setSweep (s.define r) k l _

theorem State.actRearm_setSweep : (s.setSweep l).actRearm k r = (s.actRearm k r).setSweep l := by
  have checks : (s.setSweep l).checkRearm r = s.checkRearm r := rfl
  unfold State.actRearm
  rw [checks]
  cases s.checkRearm r with
  | some a => exact s.answer_setSweep k l a
  | none => exact State.answer_setSweep (s.setGroup r.group ((s.group r.group).rearmed (r.param16 1))) k l _

theorem State.actDrop_setSweep : (s.setSweep l).actDrop k r = (s.actDrop k r).setSweep l := by
  have checks : (s.setSweep l).checkDrop r = s.checkDrop r := rfl
  unfold State.actDrop
  rw [checks]
  cases s.checkDrop r with
  | some a => exact s.answer_setSweep k l a
  | none => exact State.answer_setSweep (s.setGroup r.group GroupRec.reset) k l _

theorem State.actFlush_setSweep : (s.setSweep l).actFlush k = (s.actFlush k).setSweep l := by
  have current : (s.setSweep l).pages.current = s.pages.current := rfl
  unfold State.actFlush
  rw [current, State.closePage_setSweep]
  cases s.pages.current with
  | none => exact s.answer_setSweep k l _
  | some p => exact State.answer_setSweep (s.closePage .flush) k l _

/-- A take does not read what the sweep has still to visit. -/
theorem State.takeSlot_setSweep : (s.setSweep l).takeSlot k = (s.takeSlot k).setSweep l := by
  have request : (s.setSweep l).readRequest k = s.readRequest k := rfl
  have begun : (s.setSweep l).beginTake k = (s.beginTake k).setSweep l := rfl
  unfold State.takeSlot
  rw [request, begun]
  dsimp only
  cases kindOf (s.readRequest k).kind with
  | none => exact (s.beginTake k).answer_setSweep k l _
  | some kind =>
    cases kind with
    | setChain => exact (s.beginTake k).actSetChain_setSweep k _ l
    | readChain => exact (s.beginTake k).actReadChain_setSweep k _ l
    | parkChain => exact (s.beginTake k).actParkChain_setSweep k _ l
    | setGroup => exact (s.beginTake k).actSetGroup_setSweep k _ l
    | rearmGroup => exact (s.beginTake k).actRearm_setSweep k _ l
    | dropGroup => exact (s.beginTake k).actDrop_setSweep k _ l
    | flush => exact (s.beginTake k).actFlush_setSweep k l

end

/-! ## The work of a block, item by item -/

/-- Period expiries taken one after another do not read the outstanding frame work. -/
theorem State.foldl_periodExpired_setFrame (l : List ChainNo) (s : State) (w : FrameWork) :
    l.foldl State.periodExpired (s.setFrame w) = (l.foldl State.periodExpired s).setFrame w := by
  induction l generalizing s with
  | nil => rfl
  | cons c l ih => rw [List.foldl_cons, State.periodExpired_setFrame, ih, List.foldl_cons]

/-- Examinations one after another do not read the outstanding frame work. -/
theorem State.foldl_examine_setFrame (l : List ChainNo) (s : State) (w : FrameWork) :
    l.foldl State.examine (s.setFrame w) = (l.foldl State.examine s).setFrame w := by
  induction l generalizing s with
  | nil => rfl
  | cons c l ih => rw [List.foldl_cons, State.examine_setFrame, ih, List.foldl_cons]

theorem State.periodExpired_frame (s : State) (c : ChainNo) : (s.periodExpired c).frame = s.frame := by
  unfold State.periodExpired
  split
  · rfl
  · exact s.joinDue_frame c

theorem State.examine_frame (s : State) (c : ChainNo) : (s.examine c).frame = s.frame := by
  unfold State.examine
  split
  · split
    · rfl
    · obtain ⟨⟨ch, l, h, -⟩, -⟩ := (s.chill c .cold).grantTest_changes
      rw [h, State.chill_frame]
  · rfl

/-- With no period expiry outstanding the Scan Scheduler has no work. -/
theorem State.takeExpiries_nil {s : State} (h : s.frame.expiries = []) : s.takeExpiries = s := by
  unfold State.takeExpiries
  rw [h, List.foldl_nil, ← h]
  rfl

/-- The Scan Scheduler's work is the first period expiry, then the rest (R29). -/
theorem State.takeExpiries_cons {s : State} {c : ChainNo} {rest : List ChainNo} (h : s.frame.expiries = c :: rest) :
    s.takeExpiries = (s.takeExpiry c rest).takeExpiries := by
  unfold State.takeExpiries State.takeExpiry
  rw [h, List.foldl_cons, State.periodExpired_frame]
  simp only [State.periodExpired_setFrame, State.setFrame_setFrame, State.foldl_periodExpired_setFrame,
    State.setFrame_frame]

/-- With no chain left to examine the Chain Controller has no work. -/
theorem State.takeCoolDowns_nil {s : State} (h : s.frame.coolDowns = []) : s.takeCoolDowns = s := by
  unfold State.takeCoolDowns
  rw [h, List.foldl_nil, ← h]
  rfl

/-- The Chain Controller's work is the first examination, then the rest (R13). -/
theorem State.takeCoolDowns_cons {s : State} {c : ChainNo} {rest : List ChainNo} (h : s.frame.coolDowns = c :: rest) :
    s.takeCoolDowns = ((s.setFrame { s.frame with coolDowns := rest }).examine c).takeCoolDowns := by
  unfold State.takeCoolDowns
  rw [h, List.foldl_cons, State.examine_frame]
  simp only [State.examine_setFrame, State.setFrame_setFrame, State.foldl_examine_setFrame, State.setFrame_frame]

/-- With no slot left to visit the Request Engine has no work. -/
theorem State.takeSweep_nil {s : State} (h : s.frame.sweep = []) : s.takeSweep = s := by
  have unchanged : s.setSweep s.frame.sweep = s := rfl
  show (s.setSweep []).sweepOver s.frame.sweep = s
  rw [h] at unchanged ⊢
  exact unchanged

section
variable {s : State} {k : SlotNo} {rest : List SlotNo} (h : s.frame.sweep = k :: rest)
include h

/-- The sweep passes a slot that does not read POSTED (R116). -/
theorem State.takeSweep_pass (unposted : s.slotOwner k ≠ slotPosted) : s.takeSweep = (s.setSweep rest).takeSweep := by
  unfold State.takeSweep
  rw [h]
  exact if_neg unposted

/-- A POSTED slot met without room ends the sweep (R116). -/
theorem State.takeSweep_full (posted : s.slotOwner k = slotPosted) (full : s.hasRoom = false) :
    s.takeSweep = s.setSweep [] := by
  unfold State.takeSweep
  rw [h]
  refine (if_pos posted).trans (if_neg ?_)
  rw [show (s.setFrame { s.frame with sweep := [] }).hasRoom = s.hasRoom from rfl, full]
  exact Bool.false_ne_true

/-- A POSTED slot met with room is taken, and the sweep goes on (R116, R117). -/
theorem State.takeSweep_take (posted : s.slotOwner k = slotPosted) (room : s.hasRoom = true) :
    s.takeSweep = ((s.setSweep rest).takeSlot k).takeSweep := by
  have swept : ((s.setSweep rest).takeSlot k).frame.sweep = rest := by rw [State.takeSlot_setSweep]; rfl
  have emptied : ((s.setSweep rest).takeSlot k).setSweep [] = (s.setSweep []).takeSlot k := by
    rw [State.takeSlot_setSweep, State.setSweep_setSweep, ← State.takeSlot_setSweep]
  show (s.setSweep []).sweepOver s.frame.sweep = (((s.setSweep rest).takeSlot k).setSweep []).sweepOver _
  rw [h, swept, emptied]
  exact (if_pos posted).trans (if_pos room)

end

/-- One turn of a sweep: it is over, passes a slot, ends without room, or takes a slot. -/
theorem State.takeSweep_cases (s : State) : s.takeSweep = s ∨ (∃ l, l <:+ s.frame.sweep ∧ s.takeSweep = s.setSweep l) ∨
    ∃ k rest, s.frame.sweep = k :: rest ∧
      ((s.slotOwner k ≠ slotPosted ∧ s.takeSweep = (s.setSweep rest).takeSweep) ∨
       (s.slotOwner k = slotPosted ∧ s.hasRoom = true ∧ s.takeSweep = ((s.setSweep rest).takeSlot k).takeSweep)) := by
  cases h : s.frame.sweep with
  | nil => exact .inl (State.takeSweep_nil h)
  | cons k rest =>
    by_cases posted : s.slotOwner k = slotPosted
    · cases room : s.hasRoom with
      | true => exact .inr (.inr ⟨k, rest, rfl, .inr ⟨posted, rfl, State.takeSweep_take h posted room⟩⟩)
      | false => exact .inr (.inl ⟨[], List.nil_suffix, State.takeSweep_full h posted room⟩)
    · exact .inr (.inr ⟨k, rest, rfl, .inl ⟨posted, State.takeSweep_pass h posted⟩⟩)

end Sys2Proof.Machine
end

section
/-! SUPPORT. The inner work of the blocks: what takes, examinations, expiries and hand-backs are made of, and what they
never change: the run items, the enables and the alert level, the port, the rest of the outstanding frame work. -/

namespace Sys2Proof.Machine

open Sys2Proof

/-- One piece of the blocks' inner work: a change of chains, reader, images, groups and taken set, an answer, a record
generated, or a page closed. -/
inductive State.Work : State → State → Prop
  | side (s : State) (ex : List ChainNo) (ch : Vector ChainRec 16) (lru due : List ChainNo)
      (rd : Option ReadInProgress) (im : Vector Image 16) (gr : Vector GroupRec 64) (tk : List Held) :
      Work s { s with frame := { s.frame with expiries := ex }, chains := ch, lru := lru, due := due, read := rd
                      images := im, groups := gr, requests := { s.requests with taken := tk } }
  | answer (s : State) (k : SlotNo) (a : Answer) : Work s (s.answer k a)
  | generate (s : State) (r : Record) : Work s (s.generate r)
  | closePage (s : State) (cause : SealCause) : Work s (s.closePage cause)

/-- `t` comes from `s` by inner work of the blocks. -/
abbrev State.Works : State → State → Prop := Relation.ReflTransGen State.Work

/-- What every piece of inner work keeps, inner work keeps. -/
theorem State.Works.keep {P : State → Prop} (piece : ∀ s t, s.Work t → P s → P t) {s t : State} (h : s.Works t) :
    P s → P t := by
  intro start
  induction h with
  | refl => exact start
  | tail _ work ih => exact piece _ _ work ih

/-- Inner work leaves the run items, the sweep cursor, the enables, the alert level, the port and the outstanding frame
work but for period expiries. -/
theorem State.Works.changes {s t : State} (h : s.Works t) : ∃ ex ch lru due rd im gr rc pg tk fl w,
    t = { s with frame := { s.frame with expiries := ex }, chains := ch, lru := lru, due := due, read := rd, images := im
                 groups := gr, records := rc, pages := pg, requests := { s.requests with taken := tk }
                 alerts := { s.alerts with flags := fl }, window := w } := by
  induction h with
  | refl => exact ⟨_, _, _, _, _, _, _, _, _, _, _, _, rfl⟩
  | tail _ work ih =>
    obtain ⟨_, _, _, _, _, _, _, _, _, _, _, _, rfl⟩ := ih
    cases work with
    | side => exact ⟨_, _, _, _, _, _, _, _, _, _, _, _, rfl⟩
    | answer k a =>
      obtain ⟨_, h⟩ := State.answer_changes _ k a
      exact ⟨_, _, _, _, _, _, _, _, _, _, _, _, h⟩
    | generate r =>
      obtain ⟨_, _, _, _, h, -⟩ := State.generate_changes _ r
      exact ⟨_, _, _, _, _, _, _, _, _, _, _, _, h⟩
    | closePage cause =>
      obtain ⟨_, _, _, _, h, -⟩ := State.closePage_path _ cause
      exact ⟨_, _, _, _, _, _, _, _, _, _, _, _, h⟩

section
variable {s t : State} (h : s.Works t)
include h

theorem State.Works.run : t.run = s.run := by obtain ⟨_, _, _, _, _, _, _, _, _, _, _, _, rfl⟩ := h.changes; rfl
theorem State.Works.cursor : t.requests.cursor = s.requests.cursor := by
  obtain ⟨_, _, _, _, _, _, _, _, _, _, _, _, rfl⟩ := h.changes; rfl
theorem State.Works.enables : t.alerts.enables = s.alerts.enables := by
  obtain ⟨_, _, _, _, _, _, _, _, _, _, _, _, rfl⟩ := h.changes; rfl
theorem State.Works.level : t.alerts.level = s.alerts.level := by
  obtain ⟨_, _, _, _, _, _, _, _, _, _, _, _, rfl⟩ := h.changes; rfl
theorem State.Works.port : t.port = s.port := by obtain ⟨_, _, _, _, _, _, _, _, _, _, _, _, rfl⟩ := h.changes; rfl
theorem State.Works.coolDowns : t.frame.coolDowns = s.frame.coolDowns := by
  obtain ⟨_, _, _, _, _, _, _, _, _, _, _, _, rfl⟩ := h.changes; rfl
theorem State.Works.sweep : t.frame.sweep = s.frame.sweep := by
  obtain ⟨_, _, _, _, _, _, _, _, _, _, _, _, rfl⟩ := h.changes; rfl
theorem State.Works.pageWork : t.frame.pageWork = s.frame.pageWork := by
  obtain ⟨_, _, _, _, _, _, _, _, _, _, _, _, rfl⟩ := h.changes; rfl

end

/-- A change of chains, reader, images, groups and taken set is inner work. -/
theorem State.works_side (s : State) (ex : List ChainNo) (ch : Vector ChainRec 16) (lru due : List ChainNo)
    (rd : Option ReadInProgress) (im : Vector Image 16) (gr : Vector GroupRec 64) (tk : List Held) :
    s.Works { s with frame := { s.frame with expiries := ex }, chains := ch, lru := lru, due := due, read := rd
                     images := im, groups := gr, requests := { s.requests with taken := tk } } :=
  .single (.side s ex ch lru due rd im gr tk)

/-! ## Operations that are inner work -/

section
variable (s : State)

theorem State.modChain_works (c : ChainNo) (f : ChainRec → ChainRec) : s.Works (s.modChain c f) :=
  State.works_side ..

theorem State.setImage_works (c : ChainNo) (i : Image) : s.Works (s.setImage c i) :=
  State.works_side ..

theorem State.setGroup_works (n : GroupNo) (g : GroupRec) : s.Works (s.setGroup n g) :=
  State.works_side ..

theorem State.deferOn_works (c : ChainNo) (k : SlotNo) : s.Works (s.deferOn c k) :=
  State.works_side ..

theorem State.chill_works (c : ChainNo) (cs : ChainState) : s.Works (s.chill c cs) :=
  State.works_side ..

theorem State.closePage_works (cause : SealCause) : s.Works (s.closePage cause) := .single (.closePage s cause)

theorem State.generate_works (r : Record) : s.Works (s.generate r) := .single (.generate s r)

theorem State.answer_works (k : SlotNo) (a : Answer) : s.Works (s.answer k a) := .single (.answer s k a)

theorem State.works_of_granted {s t : State} (h : s.granted t) : s.Works t := by
  obtain ⟨⟨_, _, rfl, -⟩, -⟩ := h
  exact State.works_side ..

theorem State.grantTest_works : s.Works s.grantTest := State.works_of_granted s.grantTest_changes

theorem State.startRead_works (g : Geometry) (c : ChainNo) : s.Works (s.startRead g c) :=
  State.works_side ..

theorem State.readerChoice_works : s.Works s.readerChoice := by
  rcases s.readerChoice_changes with h | ⟨g, c, -, -, -, -, h⟩
  · rw [h]
  · rw [h]
    exact s.startRead_works g c

theorem State.joinDue_works (c : ChainNo) : s.Works (s.joinDue c) := by
  obtain ⟨⟨_, _, _, _, h⟩, -⟩ := s.joinDue_changes c
  rw [h]
  exact State.works_side ..

theorem State.reconfigure_works (c : ChainNo) (d : ChainDef) : s.Works (s.reconfigure c d) := by
  obtain ⟨_, _, h, -⟩ := s.reconfigure_changes c d
  rw [h]
  exact State.works_side ..

theorem State.park_works (c : ChainNo) : s.Works (s.park c) := by
  obtain ⟨_, _, h, -⟩ := s.park_changes c
  rw [h]
  exact State.works_side ..

theorem State.enterLost_works (c : ChainNo) : s.Works (s.enterLost c) := by
  obtain ⟨_, h⟩ := s.enterLost_changes c
  rw [h]
  exact State.works_side ..

theorem State.periodExpired_works (c : ChainNo) : s.Works (s.periodExpired c) := by
  unfold State.periodExpired
  split
  · exact s.modChain_works c _
  · exact s.joinDue_works c

theorem State.examine_works (c : ChainNo) : s.Works (s.examine c) := by
  unfold State.examine
  split
  · split
    · exact s.modChain_works c _
    · exact Relation.ReflTransGen.trans (s.chill_works c .cold) (State.grantTest_works _)
  · exact .refl

/-! ## Takes -/

section
variable (k : SlotNo) (r : Request)

theorem State.actSetChain_works : s.Works (s.actSetChain k r) := by
  unfold State.actSetChain
  split
  · exact s.answer_works k _
  · split
    · exact s.deferOn_works _ k
    · exact Relation.ReflTransGen.trans (s.reconfigure_works _ _) (State.answer_works _ k _)

theorem State.actReadChain_works : s.Works (s.actReadChain k r) := by
  unfold State.actReadChain
  split
  · exact s.answer_works k _
  · exact Relation.ReflTransGen.trans (s.modChain_works _ _) (State.joinDue_works _ _)

theorem State.actParkChain_works : s.Works (s.actParkChain k r) := by
  unfold State.actParkChain
  split
  · exact s.answer_works k _
  · split
    · exact s.deferOn_works _ k
    · exact Relation.ReflTransGen.trans (s.park_works _) (State.answer_works _ k _)

theorem State.define_works : s.Works (s.define r) := by
  unfold State.define
  dsimp only
  split <;> exact s.setGroup_works _ _

theorem State.actSetGroup_works : s.Works (s.actSetGroup k r) := by
  unfold State.actSetGroup
  split
  · exact s.answer_works k _
  · exact Relation.ReflTransGen.trans (s.define_works r) (State.answer_works _ k _)

theorem State.actRearm_works : s.Works (s.actRearm k r) := by
  unfold State.actRearm
  split
  · exact s.answer_works k _
  · exact Relation.ReflTransGen.trans (s.setGroup_works _ _) (State.answer_works _ k _)

theorem State.actDrop_works : s.Works (s.actDrop k r) := by
  unfold State.actDrop
  split
  · exact s.answer_works k _
  · exact Relation.ReflTransGen.trans (s.setGroup_works _ _) (State.answer_works _ k _)

theorem State.actFlush_works : s.Works (s.actFlush k) := by
  unfold State.actFlush
  split
  · exact s.answer_works k _
  · exact Relation.ReflTransGen.trans (s.closePage_works .flush) (State.answer_works _ k _)

/-- A take, once begun, is inner work. -/
theorem State.takeSlot_works : (s.beginTake k).Works (s.takeSlot k) := by
  unfold State.takeSlot
  dsimp only
  cases kindOf (s.readRequest k).kind with
  | none => exact State.answer_works _ k _
  | some kind =>
    cases kind with
    | setChain => exact State.actSetChain_works _ k _
    | readChain => exact State.actReadChain_works _ k _
    | parkChain => exact State.actParkChain_works _ k _
    | setGroup => exact State.actSetGroup_works _ k _
    | rearmGroup => exact State.actRearm_works _ k _
    | dropGroup => exact State.actDrop_works _ k _
    | flush => exact State.actFlush_works _ k

theorem State.takeSlot_run : (s.takeSlot k).run = s.run := (State.Works.run (s.takeSlot_works k) :)

end

/-! ## The stages of a read completion -/

theorem State.evaluateGroup_works (n : GroupNo) : s.Works (s.evaluateGroup n) := by
  unfold State.evaluateGroup
  dsimp only
  split
  · exact s.setGroup_works n _
  · exact Relation.ReflTransGen.trans (Relation.ReflTransGen.trans (s.setGroup_works n _) (State.generate_works _ _))
      (State.setGroup_works _ n _)

end

/-- What holds of one step of a fold and composes holds of the fold. -/
theorem State.foldl_works {α : Type} {f : State → α → State} (step : ∀ (s : State) (a : α), s.Works (f s a))
    (l : List α) (s : State) :
    s.Works (l.foldl f s) := by
  induction l generalizing s with
  | nil => exact .refl
  | cons a l ih => exact Relation.ReflTransGen.trans (step s a) (ih _)

section
variable (s : State)

theorem State.answerAll_works (ks : List SlotNo) (a : Answer) : s.Works (s.answerAll ks a) :=
  State.foldl_works (fun t k => t.answer_works k a) ks s

theorem State.evaluateChain_works (c : ChainNo) : s.Works (s.evaluateChain c) := by
  refine State.foldl_works (fun t n => ?_) allGroups s
  split
  · exact t.evaluateGroup_works n
  · exact .refl

theorem State.filterRead_works (rd : ReadInProgress) : s.Works (s.filterRead rd) :=
  Relation.ReflTransGen.trans (s.setImage_works _ _) (State.evaluateChain_works _ _)

theorem State.recover_works (c : ChainNo) : s.Works (s.recover c) := by
  unfold State.recover
  split
  · exact .refl
  · exact Relation.ReflTransGen.trans (s.generate_works _) (State.modChain_works _ c _)

theorem State.badRead_works (c : ChainNo) : s.Works (s.badRead c) := by
  unfold State.badRead
  dsimp only
  split
  · exact Relation.ReflTransGen.trans (Relation.ReflTransGen.trans (s.modChain_works c _) (State.generate_works _ _))
      (State.enterLost_works _ c)
  · split
    · exact Relation.ReflTransGen.trans (s.modChain_works c _) (State.generate_works _ _)
    · exact s.modChain_works c _

theorem State.judgeRead_works (rd : ReadInProgress) : s.Works (s.judgeRead rd) := by
  unfold State.judgeRead
  split
  · exact Relation.ReflTransGen.trans (s.recover_works _) (State.filterRead_works _ rd)
  · exact s.badRead_works _

theorem State.handBackPlain_works (c : ChainNo) : s.Works (s.handBackPlain c) := by
  unfold State.handBackPlain
  split
  · exact .refl
  · split
    · exact s.chill_works c _
    · exact State.works_side ..

theorem State.handBackDeferred_works (c : ChainNo) (k : SlotNo) (r : Request) :
    s.Works (s.handBackDeferred c k r) := by
  unfold State.handBackDeferred
  split
  · exact Relation.ReflTransGen.trans (s.reconfigure_works c _) (State.answer_works _ k _)
  · split
    · exact s.answer_works k _
    · exact Relation.ReflTransGen.trans (s.park_works c) (State.answer_works _ k _)

theorem State.handBack_works (c : ChainNo) : s.Works (s.handBack c) := by
  unfold State.handBack
  split
  · exact Relation.ReflTransGen.trans (s.handBackPlain_works c) (State.grantTest_works _)
  · split
    · exact Relation.ReflTransGen.trans (s.handBackDeferred_works c _ _) (State.grantTest_works _)
    · exact Relation.ReflTransGen.trans (s.handBackPlain_works c) (State.grantTest_works _)

theorem State.answerImages_works (rd : ReadInProgress) (i : Image) : s.Works (s.answerImages rd i) := by
  refine State.foldl_works (fun t k => ?_) rd.attached s
  split
  · exact t.answer_works k _
  · exact .refl

theorem State.answerReads_works (rd : ReadInProgress) (good : Bool) (judged : State) :
    s.Works (s.answerReads rd good judged) := by
  unfold State.answerReads
  split
  · exact s.answerImages_works rd _
  · split <;> exact s.answerAll_works _ _

/-- A read completion up to the reader's next choice (R42). -/
def State.finishRead (s : State) (rd : ReadInProgress) : State :=
  let counted := s.countRead rd.chain
  let judged := counted.judgeRead rd
  let answered := (judged.handBack rd.chain).answerReads rd (counted.readGood rd) judged
  { answered with read := none }

theorem State.completeRead_eq (rd : ReadInProgress) :
    s.completeRead rd = (s.finishRead rd).readerChoice.drainTest := rfl

theorem State.finishRead_works (rd : ReadInProgress) : s.Works (s.finishRead rd) := by
  have counted : s.Works (s.countRead rd.chain) := s.modChain_works _ _
  have judged := counted.trans ((s.countRead rd.chain).judgeRead_works rd)
  have handed := judged.trans (State.handBack_works _ rd.chain)
  have answered := handed.trans (State.answerReads_works _ rd ((s.countRead rd.chain).readGood rd)
    ((s.countRead rd.chain).judgeRead rd))
  exact answered.trans (State.works_side ..)

/-! ## The frame work as a whole -/

theorem State.recordPath_run {s t : State} (path : s.recordPath t) : t.run = s.run := by
  obtain ⟨_, _, _, _, rfl, -, -⟩ := path
  rfl

theorem State.pageWriterWork_run : s.pageWriterWork.run = s.run := (State.recordPath_run s.pageWriterWork_path :)

/-- The drain-end test ends a drain or changes nothing of the run. -/
theorem State.drainTest_run : s.drainTest.run = s.run ∨
    (s.run.state = .draining ∧ s.drainTest.run = { s.run with state := .idle, frameTimer := none }) := by
  unfold State.drainTest
  split
  · rename_i ends
    simp only [Bool.and_eq_true, decide_eq_true_eq] at ends
    refine .inr ⟨ends.1.1, ?_⟩
    have closed := State.recordPath_run
      (State.recordPath_trans s.finishPageWork_path (State.closePage_path s.finishPageWork .stop))
    simp only [State.drainEnd, State.raise_run, closed, State.setFrame_run]
  · exact .inl rfl

theorem State.takeExpiries_run : s.takeExpiries.run = s.run :=
  (State.Works.run (State.foldl_works (fun t c => t.periodExpired_works c) s.frame.expiries
    (s.setFrame { s.frame with expiries := [] })) :)

theorem State.takeCoolDowns_run : s.takeCoolDowns.run = s.run :=
  (State.Works.run (State.foldl_works (fun t c => t.examine_works c) s.frame.coolDowns
    (s.setFrame { s.frame with coolDowns := [] })) :)

theorem State.sweepOver_run (l : List SlotNo) : (s.sweepOver l).run = s.run := by
  induction l generalizing s with
  | nil => rfl
  | cons k rest ih =>
    unfold State.sweepOver
    split
    · split
      · rw [ih, State.takeSlot_run]
      · rfl
    · exact ih s

theorem State.takeSweep_run : s.takeSweep.run = s.run := State.sweepOver_run _ s.frame.sweep

/-- The Page Writer's work changes nothing of the run but a drain's end (R101, R159). -/
theorem State.takePageWork_run : s.takePageWork.run = s.run ∨
    (s.run.state = .draining ∧ s.takePageWork.run = { s.run with state := .idle, frameTimer := none }) := by
  unfold State.takePageWork
  split
  · have tested := s.pageWriterWork.drainTest_run
    rwa [State.pageWriterWork_run] at tested
  · exact .inl rfl

/-- One block's work changes nothing of the run but a drain's end. -/
theorem State.blockWork_run (b : FrameBlock) : (s.blockWork b).run = s.run ∨
    (s.run.state = .draining ∧ (s.blockWork b).run = { s.run with state := .idle, frameTimer := none }) := by
  cases b with
  | scanScheduler => exact .inl s.takeExpiries_run
  | chainController => exact .inl s.takeCoolDowns_run
  | pageWriter => exact s.takePageWork_run
  | requestEngine => exact .inl s.takeSweep_run

/-- The blocks' work changes nothing of the run but a drain's end. -/
theorem State.foldl_blockWork_run (order : List FrameBlock) : (order.foldl State.blockWork s).run = s.run ∨
    (s.run.state = .draining ∧
      (order.foldl State.blockWork s).run = { s.run with state := .idle, frameTimer := none }) := by
  induction order generalizing s with
  | nil => exact .inl rfl
  | cons b order ih =>
    rw [List.foldl_cons]
    rcases s.blockWork_run b with same | ⟨draining, ended⟩ <;> rcases ih (s.blockWork b) with same' | ⟨draining', ended'⟩
    · exact .inl (same'.trans same)
    · exact .inr (by rw [← same]; exact ⟨draining', ended'⟩)
    · exact .inr ⟨draining, same'.trans ended⟩
    · rw [ended] at draining'
      cases draining'

/-- Outside a drain the outstanding frame work leaves the run as it is. -/
theorem State.finishFrame_run (notDraining : s.run.state ≠ .draining) : s.finishFrame.run = s.run := by
  rcases s.foldl_blockWork_run leftoverOrder with same | ⟨draining, -⟩
  · exact same
  · exact absurd draining notDraining

/-- The outstanding frame work never brings INIT. -/
theorem State.finishFrame_not_init (notInit : s.run.state ≠ .init) : s.finishFrame.run.state ≠ .init := by
  rcases s.foldl_blockWork_run leftoverOrder with same | ⟨-, ended⟩
  · rw [State.finishFrame, same]
    exact notInit
  · rw [State.finishFrame, ended]
    exact RunState.noConfusion

end

end Sys2Proof.Machine
end

section
/-! SUPPORT. What a step can do, said once: every step is a run of events, each of one rule, with the condition under which
it falls. A law of the state is then proved event by event. -/

namespace Sys2Proof.Machine

open Sys2Proof

/-- One event of the part, with the condition it falls under. -/
inductive State.Event : State → State → Prop
  | hardReset (s : State) : Event s { State.reset with
      port := Port.fresh s.port.phase.underReset, window := s.window, fresh := s.fresh, pending := s.pending }
  | nresetRise {s : State} (k : Nat) (low : s.run.nresetLow = true) : Event s { s with
      run := { s.run with nresetLow := false, state := .init, zeroing := some k }, fresh := s.fresh + 1 }
  | initEnd {s : State} (init : s.run.state = .init) (zeroing : s.run.zeroing.isSome = true) : Event s { s with
      run := { s.run with state := .idle, zeroing := none }, window := [] }
  | outside (s : State) (p : Port) (q : List Instr) : Event s { s with port := p, pending := q }
  | hostByte (s : State) (a : WindowAddr) (b : Byte) : Event s (s.hostByte a b)
  | clearFlags (s : State) (v : Half) : Event s (s.clearFlags v)
  | setEnables {s : State} (v : Half) (notInit : s.run.state ≠ .init) : Event s (s.setEnables v)
  | acceptStart {s : State} (idle : s.run.state = .idle) (passes : s.startRefusal = 0) : Event s s.acceptStart
  | refuseStart {s : State} (cause : Nat) (idle : s.run.state = .idle) : Event s (s.refuseStart cause)
  | enterDraining {s : State} (running : s.run.state = .running) : Event s s.enterDraining
  | secondStop {s : State} (draining : s.run.state = .draining) : Event s s.secondStop
  | softReset {s : State} (notInit : s.run.state ≠ .init) : Event s s.softReset
  | openRunning {s : State} (running : s.run.state = .running) : Event s s.openRunningFrame
  | openDraining {s : State} (draining : s.run.state = .draining) : Event s s.openDrainingFrame
  | takeExpiry {s : State} {c : ChainNo} {rest : List ChainNo} (next : s.frame.expiries = c :: rest) :
      Event s (s.takeExpiry c rest)
  | dropCoolDowns {s : State} {l : List ChainNo} (fewer : l ⊆ s.frame.coolDowns) :
      Event s (s.setFrame { s.frame with coolDowns := l })
  | examine (s : State) (c : ChainNo) : Event s (s.examine c)
  | pageWriterWork {s : State} (outstanding : s.frame.pageWork = true) : Event s s.pageWriterWork
  | drainTest (s : State) : Event s s.drainTest
  | passSweep {s : State} {l : List SlotNo} (fewer : l <:+ s.frame.sweep) : Event s (s.setSweep l)
  | take {s : State} {k : SlotNo} {rest : List SlotNo} (visits : s.frame.sweep = k :: rest)
      (posted : s.slotOwner k = slotPosted) (room : s.hasRoom = true) : Event s ((s.setSweep rest).takeSlot k)
  | staleCompletion (s : State) (c : ChainNo) : Event s (s.modChain c fun r => { r with stale := false })
  | settled {s : State} {c : ChainNo} (settling : (s.chain c).state = .settling) : Event s (s.settled c)
  | grant {s t : State} (granted : s.grantOne = some t) : Event s t
  | readerChoice (s : State) : Event s s.readerChoice
  | bit {s : State} {rd : ReadInProgress} (inputs : BitVec 16) (reading : s.read = some rd) :
      Event s { s with read := some (rd.bit inputs) }
  | completion {s : State} {rd : ReadInProgress} (reading : s.read = some rd) (whole : rd.whole = true) :
      Event s (s.finishRead rd).readerChoice.drainTest
  | overrunRecord {s : State} (room : s.records.queue.length < tripQueueSize) (pending : s.records.overrun ≠ 0) :
      Event s s.placeOverrun.pump
  | tick {s : State} (done : s.frame = FrameWork.empty) : Event s s.tick

/-- `t` comes from `s` by events one after another. -/
abbrev State.Events : State → State → Prop := Relation.ReflTransGen State.Event

/-- What every event keeps, a run of events keeps. -/
theorem State.Events.keep {P : State → Prop} (step : ∀ s t, s.Event t → P s → P t) {s t : State} (h : s.Events t) :
    P s → P t := by
  intro start
  induction h with
  | refl => exact start
  | tail _ event ih => exact step _ _ event ih

/-- A chain of events, and one more. -/
theorem State.Events.next {s t u : State} (h : s.Events t) (e : t.Event u) : s.Events u := h.tail e

/-! ## The outstanding frame work -/

theorem State.takeExpiries_events (s : State) : s.Events s.takeExpiries := by
  generalize h : s.frame.expiries = l
  induction l generalizing s with
  | nil => rw [State.takeExpiries_nil h]
  | cons c rest ih =>
    rw [State.takeExpiries_cons h]
    refine (Relation.ReflTransGen.single (.takeExpiry h)).trans (ih _ ?_)
    unfold State.takeExpiry
    rw [State.periodExpired_frame]
    rfl

theorem State.takeCoolDowns_events (s : State) : s.Events s.takeCoolDowns := by
  generalize h : s.frame.coolDowns = l
  induction l generalizing s with
  | nil => rw [State.takeCoolDowns_nil h]
  | cons c rest ih =>
    rw [State.takeCoolDowns_cons h]
    have dropped : s.Event (s.setFrame { s.frame with coolDowns := rest }) :=
      .dropCoolDowns (by rw [h]; exact List.subset_cons_self c rest)
    refine (State.Events.next (.single dropped) (.examine _ c)).trans (ih _ ?_)
    rw [State.examine_frame]
    rfl

theorem State.takePageWork_events (s : State) : s.Events s.takePageWork := by
  unfold State.takePageWork
  split
  · rename_i outstanding
    exact State.Events.next (.single (.pageWriterWork outstanding)) (.drainTest _)
  · exact .refl

theorem State.takeSweep_events (s : State) : s.Events s.takeSweep := by
  generalize h : s.frame.sweep = l
  induction l generalizing s with
  | nil => rw [State.takeSweep_nil h]
  | cons k rest ih =>
    have suffix : rest <:+ s.frame.sweep := by rw [h]; exact List.suffix_cons k rest
    by_cases posted : s.slotOwner k = slotPosted
    · cases room : s.hasRoom with
      | true =>
        rw [State.takeSweep_take h posted room]
        refine (Relation.ReflTransGen.single (.take h posted room)).trans (ih _ ?_)
        rw [State.takeSlot_setSweep]
        rfl
      | false =>
        rw [State.takeSweep_full h posted room]
        exact .single (.passSweep List.nil_suffix)
    · rw [State.takeSweep_pass h posted]
      exact (Relation.ReflTransGen.single (.passSweep suffix)).trans (ih _ rfl)

theorem State.blockWork_events (s : State) (b : FrameBlock) : s.Events (s.blockWork b) := by
  cases b with
  | scanScheduler => exact s.takeExpiries_events
  | chainController => exact s.takeCoolDowns_events
  | pageWriter => exact s.takePageWork_events
  | requestEngine => exact s.takeSweep_events

theorem State.foldl_blockWork_events (order : List FrameBlock) (s : State) :
    s.Events (order.foldl State.blockWork s) := by
  induction order generalizing s with
  | nil => exact .refl
  | cons b order ih => exact (s.blockWork_events b).trans (ih _)

theorem State.finishFrame_events (s : State) : s.Events s.finishFrame := s.foldl_blockWork_events leftoverOrder

theorem State.expireFrame_events (s : State) (order : List FrameBlock) : s.Events (s.expireFrame order) := by
  unfold State.expireFrame
  split
  · exact .refl
  · exact .refl
  · rename_i running
    exact (Relation.ReflTransGen.single (.openRunning running)).trans (State.foldl_blockWork_events order _)
  · rename_i draining
    exact (Relation.ReflTransGen.single (.openDraining draining)).trans (State.foldl_blockWork_events order _)

/-! ## The host's accesses -/

theorem State.startCommand_events (s : State) : s.Events s.startCommand := by
  unfold State.startCommand
  split
  · exact .refl
  · rename_i idle
    split
    · rename_i passes
      exact .single (.acceptStart idle passes)
    · exact .single (.refuseStart _ idle)
  · exact .refl
  · exact .refl

theorem State.stopCommand_events (s : State) : s.Events s.stopCommand := by
  unfold State.stopCommand
  split
  · exact .refl
  · exact .refl
  · rename_i running
    have still : s.finishFrame.run.state = .running := by
      rw [State.finishFrame_run s (by rw [running]; exact RunState.noConfusion), running]
    exact (s.finishFrame_events.next (.enterDraining still)).next (.drainTest _)
  · split
    · rename_i draining
      exact s.finishFrame_events.next (.secondStop draining)
    · exact s.finishFrame_events

theorem State.softResetCommand_events (s : State) : s.Events s.softResetCommand := by
  have reset (notInit : s.run.state ≠ .init) : s.Events s.finishFrame.softReset :=
    s.finishFrame_events.next (.softReset (s.finishFrame_not_init notInit))
  unfold State.softResetCommand
  split
  · exact .refl
  all_goals
    rename_i h
    exact reset (by rw [h]; exact RunState.noConfusion)

theorem State.registerWritten_events (s : State) (number : Byte) (value : Half) :
    s.Events (s.registerWritten number value) := by
  unfold State.registerWritten
  split
  · split
    · exact s.startCommand_events
    · split
      · exact s.stopCommand_events
      · split
        · exact s.softResetCommand_events
        · exact .refl
  · split
    · exact .single (.clearFlags s value)
    · split
      · split
        · exact .refl
        · rename_i notInit
          exact .single (.setEnables value notInit)
      · exact .refl

theorem State.setPort_event (s : State) (p : Port) : s.Event (s.setPort p) := .outside s p s.pending

theorem State.afterRegister_events (s : State) (number : Byte) (value : Half) :
    s.Events ((s.registerWritten number value).afterRegister number) :=
  (s.registerWritten_events number value).next (State.setPort_event _ _)

theorem State.hostRegisterWrite_events (s : State) (number : Byte) (value : Half) :
    s.Events (s.hostRegisterWrite number value) := by
  unfold State.hostRegisterWrite
  split
  · exact s.afterRegister_events number value
  · exact .refl

theorem State.windowData_events (s : State) (a : WindowAddr) (b : Byte) : s.Events (s.windowData a b) :=
  State.Events.next (.single (.hostByte s a b)) (State.setPort_event _ _)

theorem State.portByte_events (s : State) (b : Byte) : s.Events (s.portByte b) := by
  have moves (p : Port) : s.Events (s.setPort p) := .single (s.setPort_event p)
  unfold State.portByte
  split
  · exact .refl
  · exact .refl
  · exact moves _
  · exact moves _
  · split <;> exact moves _
  · exact s.windowData_events _ b
  · exact moves _
  · split <;> exact moves _
  · exact moves _
  · exact s.afterRegister_events _ _
  · exact moves _
  · exact moves _

theorem State.clockBits_events (s : State) (bits : List Bool) : s.Events (s.clockBits bits) := by
  induction bits generalizing s with
  | nil => exact .refl
  | cons b bits ih =>
    rw [State.clockBits_cons]
    refine Relation.ReflTransGen.trans ?_ (ih _)
    unfold State.clockBit
    split
    · exact .refl
    · split
      · exact .single (s.setPort_event _)
      · exact (Relation.ReflTransGen.single (s.setPort_event _)).trans (State.portByte_events _ _)

theorem State.selected_events (s : State) : s.Events s.selected := by
  unfold State.selected
  split
  · exact .single (s.setPort_event _)
  · exact .refl

/-! ## The takes -/

theorem State.takeNext_events (s : State) (kind : Option Kind) : s.Events (s.takeNext kind) := by
  unfold State.takeNext
  cases h : s.toPosted with
  | nil => exact .refl
  | cons k rest =>
    dsimp only
    split
    · rename_i takes
      simp only [Bool.and_eq_true] at takes
      have suffix : k :: rest <:+ s.frame.sweep := h ▸ List.dropWhile_suffix _
      have posted : s.slotOwner k = slotPosted := by
        have stops := List.head?_dropWhile_not (fun j => s.slotOwner j != slotPosted) s.frame.sweep
        rw [show s.frame.sweep.dropWhile (fun j => s.slotOwner j != slotPosted) = k :: rest from h] at stops
        simpa using stops
      exact State.Events.next (.single (.passSweep suffix))
        (.take (s := s.setSweep (k :: rest)) rfl posted takes.1)
    · exact .refl

/-! ## Every command, and the step -/

theorem exec_events {c : Instr} {s t : State} (h : exec c s = .next t) : s.Events t := by
  cases c with
  | hardReset => cases h; exact .single (.hardReset s)
  | nresetRise =>
    simp only [exec, execNresetRise] at h
    split at h <;> cases h
    · rename_i low
      exact .single (.nresetRise _ low)
    · exact .refl
  | initEnd =>
    simp only [exec, execInitEnd] at h
    split at h <;> cases h
    · rename_i ends
      simp only [Bool.and_eq_true, decide_eq_true_eq] at ends
      exact .single (.initEnd ends.1 ends.2)
    · exact .refl
  | start high => cases h; exact s.hostRegisterWrite_events _ _
  | stop high => cases h; exact s.hostRegisterWrite_events _ _
  | softReset high => cases h; exact s.hostRegisterWrite_events _ _
  | irqFlagsWrite value => cases h; exact s.hostRegisterWrite_events _ _
  | irqEnableWrite value => cases h; exact s.hostRegisterWrite_events _ _
  | registerWriteIgnored number value =>
    simp only [exec, execRegisterWriteIgnored] at h
    split at h <;> cases h
    exact s.hostRegisterWrite_events _ _
  | windowWrite first data =>
    simp only [exec, execWindowWrite] at h
    split at h
    · split at h <;> cases h
      · exact s.windowData_events _ _
      · exact s.windowData_events _ _
      · exact .refl
    · cases h; exact .refl
  | windowRead first =>
    simp only [exec, execWindowRead] at h
    split at h
    · split at h <;> cases h
      · exact .single (s.setPort_event _)
      · exact .single (s.setPort_event _)
      · exact .refl
    · cases h; exact .refl
  | frameExpiry order =>
    simp only [exec, execFrameExpiry] at h
    split at h <;> cases h
    exact s.finishFrame_events.trans (s.finishFrame.expireFrame_events order)
  | periodExpiry c =>
    simp only [exec, execPeriodExpiry] at h
    split at h
    · rename_i d rest next
      split at h <;> cases h
      · rename_i same
        subst same
        exact .single (.takeExpiry next)
      · exact .refl
    · cases h; exact .refl
  | idleCoolDown c =>
    simp only [exec, execIdleCoolDown] at h
    split at h <;> cases h
    · exact State.Events.next (.single (.dropCoolDowns List.filter_sublist.subset)) (.examine _ c)
    · exact .refl
  | timerSeal =>
    simp only [exec, execTimerSeal] at h
    split at h <;> cases h
    · rename_i works
      simp only [Bool.and_eq_true] at works
      exact State.Events.next (.single (.pageWriterWork works.1)) (.drainTest _)
    · exact .refl
  | settleCompletion c =>
    simp only [exec, execSettleCompletion] at h
    split at h
    · cases h; exact .single (.staleCompletion s c)
    · split at h <;> cases h
      · rename_i settling
        exact .single (.settled settling)
      · exact .refl
  | excitationGrant =>
    simp only [exec, execExcitationGrant] at h
    split at h <;> cases h
    · rename_i granted
      exact .single (.grant granted)
    · exact .refl
  | readStart => cases h; exact .single (.readerChoice s)
  | readCompletion =>
    simp only [exec, execReadCompletion] at h
    split at h
    · rename_i rd reading
      split at h <;> cases h
      · rename_i whole
        exact .single (.completion reading whole)
      · exact .refl
    · cases h; exact .refl
  | pageAcquisition =>
    simp only [exec, execPageAcquisition] at h
    split at h <;> cases h
    · rename_i works
      simp only [Bool.and_eq_true] at works
      exact State.Events.next (.single (.pageWriterWork works.1)) (.drainTest _)
    · exact .refl
  | overrunRecord =>
    simp only [exec, execOverrunRecord] at h
    split at h <;> cases h
    · rename_i places
      simp only [Bool.and_eq_true, decide_eq_true_eq, bne_iff_ne] at places
      exact .single (.overrunRecord places.1 places.2)
    · exact .refl
  | drainEnd => cases h; exact .single (.drainTest s)
  | setChain => cases h; exact s.takeNext_events _
  | readChain => cases h; exact s.takeNext_events _
  | parkChain => cases h; exact s.takeNext_events _
  | setGroup => cases h; exact s.takeNext_events _
  | rearmGroup => cases h; exact s.takeNext_events _
  | dropGroup => cases h; exact s.takeNext_events _
  | flush => cases h; exact s.takeNext_events _
  | badKind => cases h; exact s.takeNext_events _
  | transactionBegin lead bits =>
    simp only [exec, execTransactionBegin] at h
    split at h <;> cases h
    · exact s.selected_events
    · exact s.selected_events.trans (State.clockBits_events _ _)
  | transactionEnd => cases h; exact .single (s.setPort_event _)
  | bitTime inputs =>
    simp only [exec, execBitTime] at h
    split at h <;> cases h
    · rename_i rd reading
      exact .single (.bit inputs reading)
    · exact .refl

/-- A step is a run of events. -/
theorem step_events {s t : State} (h : step s = .next t) : s.Events t := by
  unfold step at h
  split at h
  · cases h
    unfold State.idleStep
    split
    · rename_i done
      exact .single (.tick done)
    · exact s.finishFrame_events
  · exact (Relation.ReflTransGen.single (.outside s s.port _)).trans (exec_events h)

/-- A law that every event keeps, while others hold that every event keeps too, every step keeps. -/
theorem step_keeps {H P : State → Prop} (others : ∀ s t, s.Event t → H s → H t)
    (kept : ∀ s t, s.Event t → H s → P s → P t) {s t : State} (hs : H s) (ps : P s) (h : step s = .next t) : P t :=
  ((step_events h).keep (P := fun u => H u ∧ P u)
    (fun u v e both => ⟨others u v e both.1, kept u v e both.1 both.2⟩) ⟨hs, ps⟩).2

end Sys2Proof.Machine
end

section
/-! SUPPORT. The canonical form of the window, and the balance of the record counts (R87), event by event. -/

namespace Sys2Proof.Machine

open Sys2Proof

/-! ## The canonical form -/

theorem State.windowLaw_of_recordPath {s t : State} (path : s.recordPath t) (h : s.windowLaw) : t.windowLaw := by
  obtain ⟨r, w, p, f, rfl, keeps, -⟩ := path
  exact (keeps h).1

theorem State.windowLaw_of_works {s t : State} (works : s.Works t) : s.windowLaw → t.windowLaw := by
  refine works.keep fun s t work h => ?_
  cases work with
  | side => exact h
  | answer k a =>
    obtain ⟨ch, answered⟩ := s.answer_changes k a
    rw [answered]
    exact s.answeredWindow_wf k a h
  | generate r =>
    obtain ⟨q, w, p, f, generated, keeps⟩ := s.generate_changes r
    rw [generated]
    exact (keeps h).1
  | closePage cause => exact State.windowLaw_of_recordPath (s.closePage_path cause) h

theorem State.windowLaw_drainTest {s : State} (h : s.windowLaw) : s.drainTest.windowLaw := by
  obtain ⟨x, ft, w, r, m, p, f, tested, keeps, -⟩ := s.drainTest_changes
  rw [tested]
  exact (keeps h).1

theorem State.abandonRead_works (s : State) (a : Answer) : s.Works (s.abandonRead a) := by
  unfold State.abandonRead
  split
  · exact .refl
  · exact Relation.ReflTransGen.trans (State.works_side ..) (State.answerAll_works _ _ a)

/-- A soft reset up to what it does to the current page and the items it clears (R162). -/
theorem State.softReset_works (s : State) :
    ∃ t, s.Works t ∧ s.softReset = t.abandonPage.clearAll :=
  ⟨_, (s.abandonRead_works (Answer.plain .reset)).trans (State.answerAll_works _ _ _), rfl⟩

theorem State.windowLaw_drainEnd {s : State} (h : s.windowLaw) : s.drainEnd.windowLaw :=
  (State.windowLaw_of_recordPath (s.closePage_path .stop) h :)

theorem State.windowLaw_abandonPage {s : State} (h : s.windowLaw) : s.abandonPage.windowLaw := by
  unfold State.abandonPage
  split
  · exact h
  · exact Memory.wf_writeBytes h _ _

theorem State.windowLaw_hostByte {s : State} (h : s.windowLaw) (a : WindowAddr) (b : Byte) :
    (s.hostByte a b).windowLaw := by
  unfold State.hostByte
  split
  · exact Memory.wf_write h _ _
  · exact h

theorem State.tick_changes (s : State) : ∃ n q, s.tick = { s.countTimers with fresh := n, pending := q } := by
  unfold State.tick
  split
  · exact ⟨s.fresh, s.pending, rfl⟩
  · exact ⟨_, _, rfl⟩

theorem State.Event.windowLaw {s t : State} (e : s.Event t) (h : s.windowLaw) : t.windowLaw := by
  cases e with
  | initEnd => exact Memory.wf_nil
  | hostByte a b => exact State.windowLaw_hostByte h a b
  | enterDraining => exact State.windowLaw_of_works (State.answerAll_works _ _ _) h
  | secondStop =>
    exact State.windowLaw_drainEnd (s := State.discardQueue _)
      (State.windowLaw_of_works (s.abandonRead_works _) h :)
  | softReset =>
    obtain ⟨u, works, reset⟩ := s.softReset_works
    rw [reset]
    exact State.windowLaw_abandonPage (State.windowLaw_of_works works h)
  | takeExpiry => exact State.windowLaw_of_works (State.periodExpired_works _ _) h
  | examine c => exact State.windowLaw_of_works (s.examine_works c) h
  | pageWriterWork => exact State.windowLaw_of_recordPath s.pageWriterWork_path h
  | drainTest => exact State.windowLaw_drainTest h
  | @take k =>
    exact State.windowLaw_of_works (State.takeSlot_works _ k) (Memory.wf_write h (slotBase k) slotTaken)
  | @settled c => exact State.windowLaw_of_works (State.readerChoice_works _) h
  | grant granted => exact State.windowLaw_of_works (State.works_of_granted (State.grantOne_changes granted)) h
  | readerChoice => exact State.windowLaw_of_works s.readerChoice_works h
  | @completion rd =>
    exact State.windowLaw_drainTest
      (State.windowLaw_of_works ((s.finishRead_works rd).trans (State.readerChoice_works _)) h)
  | overrunRecord =>
    obtain ⟨r, placed⟩ := s.placeOverrun_changes
    rw [placed]
    exact State.windowLaw_of_recordPath (State.pump_path _) h
  | tick =>
    obtain ⟨n, q, ticked⟩ := s.tick_changes
    rw [ticked]
    exact h
  | hardReset | nresetRise | outside | clearFlags | setEnables | acceptStart | refuseStart | openRunning | openDraining
  | dropCoolDowns | passSweep | staleCompletion | bit => exact h

/-- Settles O52: every write of the window keeps its canonical form, and INIT_END empties it. -/
theorem stepKeepsWindowCanonical : Obligations.StepKeepsWindowCanonical := fun _ _ h =>
  step_keeps (H := fun _ => True) (fun _ _ _ _ => trivial) (fun _ _ e _ => e.windowLaw) trivial h

/-! ## The balance of the record counts -/

/-- The balance of R87, of the Record Unit's items alone. -/
def RecordUnit.balanced (r : RecordUnit) : Prop :=
  r.generated = r.written + BitVec.ofNat 32 r.queue.length + r.lost

theorem State.balanceLaw_iff (s : State) : s.balanceLaw ↔ s.records.balanced := Iff.rfl

/-- A record appended stands for one generated. -/
theorem ofNat_length_append_one {α : Type} (l : List α) (a : α) :
    BitVec.ofNat 32 (l ++ [a]).length = BitVec.ofNat 32 l.length + 1 := by
  rw [List.length_append]
  exact BitVec.ofNat_add _ _

theorem State.balance_placeOverrun {s : State} (h : s.records.balanced) : s.placeOverrun.records.balanced := by
  by_cases pending : s.records.overrun = 0
  · rwa [State.placeOverrun_of_none pending]
  · rw [State.placeOverrun_of_pending pending]
    unfold RecordUnit.balanced at h ⊢
    simp only [ofNat_length_append_one, h]
    ac_rfl

theorem State.balance_removeHead {s : State} {r : Record} {rest : List Record} (queue : s.records.queue = r :: rest)
    (h : s.records.balanced) : s.removeHead.records.balanced := by
  refine State.balance_placeOverrun ?_
  unfold RecordUnit.balanced at h ⊢
  rw [queue] at h
  have head : BitVec.ofNat 32 (r :: rest).length = BitVec.ofNat 32 rest.length + 1 := BitVec.ofNat_add _ _
  simp only [State.setRecords_records, queue, List.tail_cons, h, head]
  ac_rfl

theorem State.sealPage_records (s : State) (cause : SealCause) : (s.sealPage cause).records = s.records := by
  obtain ⟨w, p, f, h, -, -⟩ := s.sealPage_changes cause
  rw [h]

/-- With no losses pending the head is removed and counted written (R82). -/
theorem State.removeHead_of_none {s : State} (h : s.records.overrun = 0) : s.removeHead =
    { s with records := { s.records with queue := s.records.queue.tail, written := s.records.written + 1 } } :=
  State.placeOverrun_of_none (s := s.setRecords _) h

/-- With losses pending the place of the head takes the OVERRUN record (R84). -/
theorem State.removeHead_of_pending {s : State} (h : s.records.overrun ≠ 0) : s.removeHead =
    { s with records := { s.records with
      queue := s.records.queue.tail ++ [s.overrunRecord], seq := s.records.seq + 1, written := s.records.written + 1
      generated := s.records.generated + 1, overrun := 0 } } :=
  State.placeOverrun_of_pending (s := s.setRecords _) h

theorem State.takeHead_records (s : State) (p : PageNo) (r : Record) :
    (s.takeHead p r).records = s.removeHead.records := by
  have removed : (s.placeRecord p r).removeHead.records = s.removeHead.records := by
    obtain ⟨w, placed, -⟩ := s.placeRecord_changes p r
    rw [placed]
    by_cases pending : s.records.overrun = 0
    · rw [State.removeHead_of_none pending, State.removeHead_of_none (s := s.setWindow w) pending]
      rfl
    · rw [State.removeHead_of_pending pending, State.removeHead_of_pending (s := s.setWindow w) pending]
      rfl
  unfold State.takeHead
  dsimp only
  split
  · rw [State.sealPage_records, removed]
  · exact removed

theorem State.balance_pumpLoop (n : Nat) {s : State} (h : s.records.balanced) : (s.pumpLoop n).records.balanced := by
  induction n generalizing s with
  | zero => exact h
  | succ n ih =>
    unfold State.pumpLoop
    cases queue : s.records.queue with
    | nil => exact h
    | cons r rest =>
      cases s.pages.current with
      | some p => exact ih (by rw [State.takeHead_records]; exact State.balance_removeHead queue h)
      | none =>
        cases s.searchPage with
        | some p => exact ih h
        | none => exact h

theorem State.balance_generate {s : State} (h : s.records.balanced) (r : Record) : (s.generate r).records.balanced := by
  rcases Nat.lt_or_ge s.records.queue.length 12 with room | full
  · rw [State.generate_of_room room]
    refine State.balance_pumpLoop _ ?_
    rw [State.appendRecord_records, State.announced_records]
    unfold RecordUnit.balanced at h ⊢
    simp only [ofNat_length_append_one, h]
    ac_rfl
  · rw [State.generate_of_full full, State.dropRecord_records, State.announced_records]
    unfold RecordUnit.balanced at h ⊢
    simp only [h]
    ac_rfl

theorem State.balance_closePage {s : State} (h : s.records.balanced) (cause : SealCause) :
    (s.closePage cause).records.balanced :=
  State.balance_pumpLoop _ (by rwa [State.sealPage_records])

theorem State.balance_works {s t : State} (works : s.Works t) : s.records.balanced → t.records.balanced := by
  refine works.keep (P := fun s => s.records.balanced) fun s t work h => ?_
  cases work with
  | side => exact h
  | answer k a =>
    obtain ⟨ch, answered⟩ := s.answer_changes k a
    rw [answered]
    exact h
  | generate r => exact State.balance_generate h r
  | closePage cause => exact State.balance_closePage h cause

theorem State.balance_pageWriterWork {s : State} (h : s.records.balanced) : s.pageWriterWork.records.balanced := by
  unfold State.pageWriterWork
  dsimp only
  split
  · unfold State.advanceSealTimer
    dsimp only
    split
    · split
      · refine State.balance_closePage ?_ .timer
        exact h
      · exact h
    · exact h
  · exact State.balance_pumpLoop _ h

theorem State.balance_drainEnd {s : State} (h : s.records.balanced) : s.drainEnd.records.balanced :=
  State.balance_closePage h .stop

theorem State.balance_drainTest {s : State} (h : s.records.balanced) : s.drainTest.records.balanced := by
  unfold State.drainTest State.finishPageWork
  split
  · split
    · exact State.balance_drainEnd (State.balance_pageWriterWork h)
    · exact State.balance_drainEnd h
  · exact h

/-- A second STOP counts every record waiting as lost (R90). -/
theorem State.balance_discardQueue {s : State} (h : s.records.balanced) : s.discardQueue.records.balanced := by
  unfold RecordUnit.balanced at h ⊢
  simp only [State.discardQueue, State.setRecords_records, h, List.length_nil]
  rw [show BitVec.ofNat 32 0 = 0#32 from rfl, BitVec.add_zero]
  ac_rfl

theorem RecordUnit.balanced_reset : RecordUnit.reset.balanced := rfl

theorem State.Event.balance {s t : State} (e : s.Event t) (h : s.records.balanced) : t.records.balanced := by
  cases e with
  | hardReset | acceptStart => exact RecordUnit.balanced_reset
  | hostByte a b =>
    unfold State.hostByte
    split <;> exact h
  | enterDraining => exact State.balance_works (State.answerAll_works _ _ _) h
  | secondStop => exact State.balance_drainEnd (State.balance_discardQueue (State.balance_works (s.abandonRead_works _) h))
  | softReset => exact RecordUnit.balanced_reset
  | takeExpiry => exact State.balance_works (State.periodExpired_works _ _) h
  | examine c => exact State.balance_works (s.examine_works c) h
  | pageWriterWork => exact State.balance_pageWriterWork h
  | drainTest => exact State.balance_drainTest h
  | @take k => exact State.balance_works (State.takeSlot_works _ k) h
  | @settled c => exact State.balance_works (State.readerChoice_works _) h
  | grant granted => exact State.balance_works (State.works_of_granted (State.grantOne_changes granted)) h
  | readerChoice => exact State.balance_works s.readerChoice_works h
  | @completion rd =>
    exact State.balance_drainTest
      (State.balance_works ((s.finishRead_works rd).trans (State.readerChoice_works _)) h)
  | overrunRecord => exact State.balance_pumpLoop _ (State.balance_placeOverrun h)
  | tick =>
    obtain ⟨n, q, ticked⟩ := s.tick_changes
    rw [ticked]
    exact h
  | nresetRise | initEnd | outside | clearFlags | setEnables | refuseStart | openRunning | openDraining | dropCoolDowns
  | passSweep | staleCompletion | bit => exact h

/-- Settles O54: a generation, a removal, an OVERRUN record and a discard each move one count into another. -/
theorem stepKeepsRecordBalance : Obligations.StepKeepsRecordBalance := fun _ _ h =>
  step_keeps (H := fun _ => True) (P := fun s => s.records.balanced) (fun _ _ _ _ => trivial)
    (fun _ _ e _ => e.balance) trivial h

end Sys2Proof.Machine
end

section
/-! SUPPORT. INIT (R163, R172): in it no event but those of the board and the port finds anything to do, and none but
HARD_RESET and NRESET_RISE leads into it. -/

namespace Sys2Proof.Machine

open Sys2Proof

/-! ## Outside INIT -/

/-- Outside DRAINING no drain ends. -/
theorem State.drainTest_of_notDraining {s : State} (h : s.run.state ≠ .draining) : s.drainTest = s := by
  obtain ⟨_, _, _, _, _, _, _, -, -, same⟩ := s.drainTest_changes
  exact same h

/-- Outside INIT nRESET is high. -/
theorem State.initLaw.notLow {s : State} (h : s.initLaw) (notInit : s.run.state ≠ .init) : s.run.nresetLow = false :=
  Bool.eq_false_iff.mpr fun low => notInit (h.2 low).1

/-- Outside INIT with nRESET high the law says nothing more. -/
theorem State.initLaw_of_notInit {t : State} (notInit : t.run.state ≠ .init) (high : t.run.nresetLow = false) :
    t.initLaw :=
  ⟨fun init => absurd init notInit, fun low => by rw [high] at low; cases low⟩

/-- Outside INIT what leaves the run items keeps the law. -/
theorem State.initLaw_of_run {s t : State} (h : s.initLaw) (notInit : s.run.state ≠ .init) (same : t.run = s.run) :
    t.initLaw :=
  State.initLaw_of_notInit (by rwa [same]) (by rw [same]; exact h.notLow notInit)

/-- Outside INIT the drain-end test keeps the law. -/
theorem State.initLaw_drainTest {s : State} (h : s.initLaw) (notInit : s.run.state ≠ .init) : s.drainTest.initLaw := by
  rcases s.drainTest_run with same | ⟨-, ended⟩
  · exact State.initLaw_of_run h notInit same
  · exact State.initLaw_of_notInit (by rw [ended]; exact RunState.noConfusion) (by rw [ended]; exact h.notLow notInit)

theorem State.hostByte_run (s : State) (a : WindowAddr) (b : Byte) : (s.hostByte a b).run = s.run := by
  unfold State.hostByte
  split <;> rfl

theorem State.settled_run (s : State) (c : ChainNo) : (s.settled c).run = s.run :=
  ((State.readerChoice_works _).run :)

theorem State.placeOverrun_run (s : State) : s.placeOverrun.run = s.run := by
  obtain ⟨r, placed⟩ := s.placeOverrun_changes
  rw [placed]

theorem State.secondStop_run (s : State) :
    s.secondStop.run = { s.run with state := .idle, frameTimer := none } := by
  have closed := State.recordPath_run ((s.abandonRead (Answer.plain .stopped)).discardQueue.closePage_path .stop)
  have same : (s.abandonRead (Answer.plain .stopped)).discardQueue.run = s.run := (s.abandonRead_works _).run
  simp only [State.secondStop, State.drainEnd, State.raise_run, closed, same]

theorem State.enterDraining_run (s : State) : s.enterDraining.run = { s.run with state := .draining } :=
  (State.answerAll_works _ _ _).run

theorem State.abandonPage_run (s : State) : s.abandonPage.run = s.run := by
  unfold State.abandonPage
  split <;> rfl

theorem State.softReset_run (s : State) : s.softReset.run =
    { s.run with state := .idle, zeroing := none, frameTimer := none, signature := 0, epoch := 0, stamp := 0
                 refusal := 0 } := by
  obtain ⟨t, works, reset⟩ := s.softReset_works
  rw [reset, State.clearAll, State.abandonPage_run, works.run]

theorem State.Event.initLaw_outside {s t : State} (e : s.Event t) (h : s.initLaw) (notInit : s.run.state ≠ .init) :
    t.initLaw := by
  have high := h.notLow notInit
  cases e with
  | hardReset =>
    exact ⟨fun _ => (State.initLaw_iff.mpr ⟨fun _ => State.reset_atReset, fun _ => ⟨rfl, rfl⟩⟩).1 rfl,
      fun _ => ⟨rfl, rfl⟩⟩
  | nresetRise k low => rw [high] at low; cases low
  | initEnd init => exact absurd init notInit
  | hostByte a b => exact State.initLaw_of_run h notInit (s.hostByte_run a b)
  | acceptStart | openRunning | openDraining =>
    exact State.initLaw_of_notInit (by simp_all [State.acceptStart, State.openRunningFrame, State.openDrainingFrame,
      State.advanceFrame]) high
  | enterDraining =>
    exact State.initLaw_of_notInit (by rw [s.enterDraining_run]; exact RunState.noConfusion)
      (by rw [s.enterDraining_run]; exact high)
  | secondStop =>
    exact State.initLaw_of_notInit (by rw [s.secondStop_run]; exact RunState.noConfusion)
      (by rw [s.secondStop_run]; exact high)
  | softReset =>
    exact State.initLaw_of_notInit (by rw [s.softReset_run]; exact RunState.noConfusion)
      (by rw [s.softReset_run]; exact high)
  | takeExpiry => exact State.initLaw_of_run h notInit ((State.periodExpired_works _ _).run :)
  | examine c => exact State.initLaw_of_run h notInit (s.examine_works c).run
  | pageWriterWork => exact State.initLaw_of_run h notInit s.pageWriterWork_run
  | drainTest => exact State.initLaw_drainTest h notInit
  | @take k => exact State.initLaw_of_run h notInit (State.takeSlot_run _ k :)
  | @settled c => exact State.initLaw_of_run h notInit (s.settled_run c)
  | grant granted =>
    exact State.initLaw_of_run h notInit (State.works_of_granted (State.grantOne_changes granted)).run
  | readerChoice => exact State.initLaw_of_run h notInit s.readerChoice_works.run
  | @completion rd =>
    have same := State.Works.run ((s.finishRead_works rd).trans (State.readerChoice_works _))
    exact State.initLaw_drainTest (State.initLaw_of_run h notInit same) (by rwa [same])
  | overrunRecord =>
    exact State.initLaw_of_run h notInit ((State.recordPath_run (State.pump_path _)).trans s.placeOverrun_run)
  | tick =>
    obtain ⟨n, q, ticked⟩ := s.tick_changes
    rw [ticked]
    exact State.initLaw_of_notInit notInit high
  | outside | clearFlags | setEnables | refuseStart | dropCoolDowns | passSweep | staleCompletion | bit =>
    exact State.initLaw_of_notInit notInit high

/-! ## In INIT -/

section
variable {s : State} (r : s.AtReset)
include r

theorem State.AtReset.chain (c : ChainNo) : s.chain c = ChainRec.reset := State.chain_of_reset r.chains c

/-- No chain is WARM, so none is examined with effect (R13). -/
theorem State.AtReset.examine (c : ChainNo) : s.examine c = s := by
  unfold State.examine State.coolable
  rw [r.chain]
  rfl

theorem State.AtReset.readerChoice : s.readerChoice = s :=
  State.readerChoice_of_noneWarm (by simp [r.due])

theorem State.AtReset.grantOne : s.grantOne = none := by
  unfold State.grantOne State.dueCold
  simp [r.due]

/-- A chain's record at its reset value, written again, changes nothing. -/
theorem State.AtReset.staleCompletion (c : ChainNo) : s.modChain c (fun x => { x with stale := false }) = s := by
  have same : s.chains.set c.val { s.chain c with stale := false } c.isLt = s.chains := by
    rw [r.chain, r.chains]
    exact Vector.ext fun i hi => by simp [ChainRec.reset]
  show { s with chains := s.chains.set c.val { s.chain c with stale := false } c.isLt } = s
  rw [same]

/-- No time passes for a chain at its reset values. -/
theorem State.AtReset.countTimers (low : s.run.nresetLow = true → s.run.zeroing = none) :
    s.countTimers.AtReset ∧ (s.countTimers.run.nresetLow = true → s.countTimers.run.zeroing = none) := by
  have chains : s.countTimers.chains = Vector.replicate 16 ChainRec.reset := by
    refine Vector.ext fun i hi => ?_
    simp [State.countTimers, r.chains, ChainRec.reset, counted]
  refine ⟨{ r with chains := chains, frameTimer := ?_, read := ?_ }, fun h => ?_⟩
  · simp [State.countTimers, r.frameTimer, counted]
  · simp [State.countTimers, r.read]
  · simp [State.countTimers, low h, counted]

end

/-- In INIT with the items at their reset values the law holds. -/
theorem State.initLaw_of_atReset {t : State} (init : t.run.state = .init) (r : t.AtReset)
    (low : t.run.nresetLow = true → t.run.zeroing = none) : t.initLaw :=
  State.initLaw_iff.mpr ⟨fun _ => r, fun h => ⟨init, low h⟩⟩

theorem State.Event.initLaw_inside {s t : State} (e : s.Event t) (init : s.run.state = .init) (r : s.AtReset)
    (low : s.run.nresetLow = true → s.run.zeroing = none) : t.initLaw := by
  have kept : s.initLaw := State.initLaw_of_atReset init r low
  have frame := r.frame
  cases e with
  | hardReset => exact ⟨(State.initLaw_iff.mpr ⟨fun _ => State.reset_atReset, fun _ => ⟨rfl, rfl⟩⟩).1, fun _ => ⟨rfl, rfl⟩⟩
  | nresetRise k => exact State.initLaw_of_atReset rfl { r with } (fun h => nomatch h)
  | initEnd _ zeroing =>
    refine State.initLaw_of_notInit RunState.noConfusion (Bool.eq_false_iff.mpr fun h => ?_)
    rw [low h] at zeroing
    cases zeroing
  | outside => exact State.initLaw_of_atReset init { r with } low
  | hostByte a b =>
    have same : s.hostByte a b = s := by simp [State.hostByte, init]
    rwa [same]
  | clearFlags v =>
    refine State.initLaw_of_atReset init { r with flags := ?_ } low
    rw [State.clearFlags_alerts, r.flags]
    exact BitVec.zero_and
  | dropCoolDowns fewer =>
    rw [frame] at fewer
    refine State.initLaw_of_atReset init { r with frame := ?_ } low
    rw [State.setFrame_frame, List.subset_nil.mp fewer, frame]
    rfl
  | passSweep fewer =>
    rw [frame] at fewer
    refine State.initLaw_of_atReset init { r with frame := ?_ } low
    rw [State.setSweep_frame, List.suffix_nil.mp fewer, frame]
    rfl
  | examine c => rwa [r.examine c]
  | drainTest =>
    have same : s.drainTest = s := State.drainTest_of_notDraining (by rw [init]; exact RunState.noConfusion)
    rwa [same]
  | staleCompletion c => rwa [r.staleCompletion c]
  | readerChoice => rwa [r.readerChoice]
  | tick =>
    obtain ⟨n, q, ticked⟩ := s.tick_changes
    obtain ⟨atReset, still⟩ := r.countTimers low
    rw [ticked]
    exact State.initLaw_of_atReset init { atReset with } still
  | takeExpiry next => rw [frame] at next; cases next
  | pageWriterWork outstanding => rw [frame] at outstanding; cases outstanding
  | take visits => rw [frame] at visits; cases visits
  | @settled c settling => rw [r.chain c] at settling; cases settling
  | grant granted => rw [r.grantOne] at granted; cases granted
  | bit inputs reading => rw [r.read] at reading; cases reading
  | completion reading => rw [r.read] at reading; cases reading
  | overrunRecord room pending => exact absurd (by rw [r.records]; rfl) pending
  | acceptStart idle | refuseStart _ idle => rw [init] at idle; cases idle
  | enterDraining running | openRunning running => rw [init] at running; cases running
  | secondStop draining | openDraining draining => rw [init] at draining; cases draining
  | setEnables _ notInit | softReset notInit => exact absurd init notInit

theorem State.Event.initLaw {s t : State} (e : s.Event t) (h : s.initLaw) : t.initLaw := by
  by_cases init : s.run.state = .init
  · obtain ⟨items, low⟩ := State.initLaw_iff.mp h
    exact e.initLaw_inside init (items init) fun l => (low l).2
  · exact e.initLaw_outside h init

/-- Settles O53: in INIT no event finds work to do, and outside it only a hard reset or a rise of nRESET leads in. -/
theorem stepKeepsInitAtResetValues : Obligations.StepKeepsInitAtResetValues := fun _ _ h =>
  step_keeps (H := fun _ => True) (fun _ _ _ _ => trivial) (fun _ _ e _ => e.initLaw) trivial h

end Sys2Proof.Machine
end

section
/-! SUPPORT. The Group Evaluator: one group's evaluation and that of every group of a chain, each as the records it
generates followed by one change of the groups. -/

namespace Sys2Proof.Machine

open Sys2Proof

/-! ## Records generated one after another -/

/-- Records generated one after another, in the order of the list. -/
def State.generateAll (s : State) (rs : List Record) : State := rs.foldl State.generate s

@[simp] theorem State.generateAll_nil (s : State) : s.generateAll [] = s := rfl

@[simp] theorem State.generateAll_cons (s : State) (r : Record) (rs : List Record) :
    s.generateAll (r :: rs) = (s.generate r).generateAll rs := rfl

theorem State.generateAll_append (s : State) (rs qs : List Record) :
    s.generateAll (rs ++ qs) = (s.generateAll rs).generateAll qs := List.foldl_append

/-- Generations change the Record Unit, the Page Writer, the window from 0340h on and flags. -/
theorem State.generateAll_changes (s : State) (rs : List Record) : ∃ q w p f, s.generateAll rs =
    { s with records := q, window := w, pages := p, alerts := { s.alerts with flags := f } } ∧
    s.window.keepsBoard w := by
  induction rs generalizing s with
  | nil => exact ⟨_, _, _, _, rfl, Memory.keepsBoard_refl _⟩
  | cons r rs ih =>
    obtain ⟨q, w, p, f, generated, keeps⟩ := s.generate_changes r
    obtain ⟨q', w', p', f', rest, keeps'⟩ := ih (s.generate r)
    rw [generated] at keeps' rest
    exact ⟨q', w', p', f', by rw [State.generateAll_cons, generated, rest], Memory.keepsBoard_trans keeps keeps'⟩

/-- Generations read and write the record path's items alone. -/
theorem State.generateAll_onto (s o : State) (rs : List Record) :
    (s.onto o).generateAll rs = (s.generateAll rs).onto o := by
  induction rs generalizing s with
  | nil => rfl
  | cons r rs ih => rw [State.generateAll_cons, State.generate_onto, ih, State.generateAll_cons]

/-- Every group's record replaced. -/
def State.setGroups (s : State) (v : Vector GroupRec 64) : State := { s with groups := v }

@[simp] theorem State.setGroups_setGroups (s : State) (v w : Vector GroupRec 64) :
    (s.setGroups v).setGroups w = s.setGroups w := rfl

@[simp] theorem State.setGroups_groups (s : State) (v : Vector GroupRec 64) : (s.setGroups v).groups = v := rfl
@[simp] theorem State.setGroups_run (s : State) (v : Vector GroupRec 64) : (s.setGroups v).run = s.run := rfl
@[simp] theorem State.setGroups_chains (s : State) (v : Vector GroupRec 64) : (s.setGroups v).chains = s.chains := rfl
@[simp] theorem State.setGroups_images (s : State) (v : Vector GroupRec 64) : (s.setGroups v).images = s.images := rfl
@[simp] theorem State.setGroups_records (s : State) (v : Vector GroupRec 64) : (s.setGroups v).records = s.records := rfl

theorem State.setGroup_eq_setGroups (s : State) (n : GroupNo) (g : GroupRec) :
    s.setGroup n g = s.setGroups (s.groups.set n.val g n.isLt) := rfl

/-- The groups may be replaced before generations or after them. -/
theorem State.generateAll_setGroups (s : State) (v : Vector GroupRec 64) (rs : List Record) :
    (s.setGroups v).generateAll rs = (s.generateAll rs).setGroups v := by
  have apart : (s.setGroups v).generateAll rs = (s.generateAll rs).onto (s.setGroups v) :=
    s.generateAll_onto (s.setGroups v) rs
  obtain ⟨q, w, p, f, generated, -⟩ := s.generateAll_changes rs
  rw [apart, generated]
  rfl

theorem State.generate_setGroups (s : State) (v : Vector GroupRec 64) (r : Record) :
    (s.setGroups v).generate r = (s.generate r).setGroups v := s.generateAll_setGroups v [r]

section
variable (s : State) (rs : List Record)

theorem State.generateAll_run : (s.generateAll rs).run = s.run := by
  obtain ⟨q, w, p, f, generated, -⟩ := s.generateAll_changes rs
  rw [generated]

theorem State.generateAll_groups : (s.generateAll rs).groups = s.groups := by
  obtain ⟨q, w, p, f, generated, -⟩ := s.generateAll_changes rs
  rw [generated]

theorem State.group_generateAll (n : GroupNo) : (s.generateAll rs).group n = s.group n := by
  rw [State.group, State.generateAll_groups, State.group]

theorem State.generateAll_images : (s.generateAll rs).images = s.images := by
  obtain ⟨q, w, p, f, generated, -⟩ := s.generateAll_changes rs
  rw [generated]

theorem State.generateAll_chains : (s.generateAll rs).chains = s.chains := by
  obtain ⟨q, w, p, f, generated, -⟩ := s.generateAll_changes rs
  rw [generated]

end

/-! ## One group -/

/-- A group's record after an evaluation (R62, R63, R65): the trip counted and stamped, if it is one, then the state and
the last value. -/
def GroupRec.evaluated (g : GroupRec) (value : Half) (stamp : Word) : GroupRec :=
  match g.tripKind value with
  | none => g.settleOn value
  | some _ => (g.tripped stamp).settleOn value

/-- The value a group's evaluation judges (R60). -/
def State.value (s : State) (n : GroupNo) : Half := (s.group n).masked (s.image (s.group n).chain)

/-- The trip record of a group's evaluation, if it is a trip (R64, R65). -/
def State.trip (s : State) (n : GroupNo) : Option Record :=
  ((s.group n).tripKind (s.value n)).map fun kind => tripRecord kind n (s.group n) (s.value n) s.run.stamp

/-- An evaluation generates the trip's record and changes the group. -/
theorem State.evaluateGroup_eq (s : State) (n : GroupNo) : s.evaluateGroup n =
    (s.generateAll (s.trip n).toList).setGroup n ((s.group n).evaluated (s.value n) s.run.stamp) := by
  unfold State.evaluateGroup State.trip GroupRec.evaluated
  dsimp only
  rw [show (s.group n).masked (s.image (s.group n).chain) = s.value n from rfl]
  cases (s.group n).tripKind (s.value n) with
  | none => rfl
  | some kind =>
    obtain ⟨q, w, p, f, generated, -⟩ := s.generate_changes
      (tripRecord kind n (s.group n) (s.value n) s.run.stamp)
    simp only [Option.map_some, Option.toList_some, State.generateAll_cons, State.generateAll_nil]
    rw [State.setGroup_eq_setGroups s, State.generate_setGroups, generated]
    simp only [State.setGroup, State.setGroups, Vector.set_set]

/-- An evaluation leaves the counts of a group that does not trip. -/
theorem GroupRec.evaluated_of_silent {g : GroupRec} {value : Half} (h : g.tripKind value = none) (stamp : Word) :
    g.evaluated value stamp = g.settleOn value := by
  rw [GroupRec.evaluated, h]

theorem GroupRec.evaluated_of_trip {g : GroupRec} {value : Half} {kind : RecordKind} (h : g.tripKind value = some kind)
    (stamp : Word) : g.evaluated value stamp = (g.tripped stamp).settleOn value := by
  rw [GroupRec.evaluated, h]

@[simp] theorem GroupRec.evaluated_defined (g : GroupRec) (v : Half) (w : Word) : (g.evaluated v w).defined = g.defined := by
  unfold GroupRec.evaluated; split <;> rfl

@[simp] theorem GroupRec.evaluated_chain (g : GroupRec) (v : Half) (w : Word) : (g.evaluated v w).chain = g.chain := by
  unfold GroupRec.evaluated; split <;> rfl

@[simp] theorem GroupRec.evaluated_compare (g : GroupRec) (v : Half) (w : Word) : (g.evaluated v w).compare = g.compare := by
  unfold GroupRec.evaluated; split <;> rfl

@[simp] theorem GroupRec.evaluated_mask (g : GroupRec) (v : Half) (w : Word) : (g.evaluated v w).mask = g.mask := by
  unfold GroupRec.evaluated; split <;> rfl

@[simp] theorem GroupRec.evaluated_last (g : GroupRec) (v : Half) (w : Word) : (g.evaluated v w).last = v := by
  unfold GroupRec.evaluated; split <;> rfl

@[simp] theorem GroupRec.evaluated_state (g : GroupRec) (v : Half) (w : Word) : (g.evaluated v w).state = g.judge v := by
  unfold GroupRec.evaluated; split <;> rfl

/-- Settles O35: the records of the evaluation leave the groups, and one change of the groups follows them. -/
theorem evaluationUpdatesGroupAndGeneratesTrip : Obligations.EvaluationUpdatesGroupAndGeneratesTrip := by
  intro s n g value hg hv
  subst hg
  have hv' : value = s.value n := hv
  subst hv'
  have groups (m : GroupNo) : (s.evaluateGroup n).group m =
      if m = n then (s.group n).evaluated (s.value n) s.run.stamp else s.group m := by
    rw [State.evaluateGroup_eq, State.group_setGroup, State.group_generateAll]
  have self : (s.evaluateGroup n).group n = (s.group n).evaluated (s.value n) s.run.stamp := by
    rw [groups, if_pos rfl]
  refine ⟨by simp [self], by rw [self, GroupRec.evaluated_state]; rfl, fun m other => by rw [groups, if_neg other],
    ?images, ?chains, fun silent => ⟨?frame, ?trips, ?stamp⟩, fun kind trips => ⟨?trips', ?stamp', ?records⟩⟩
  case images => rw [State.evaluateGroup_eq, State.setGroup_images, State.generateAll_images]
  case chains => rw [State.evaluateGroup_eq, State.setGroup_chains, State.generateAll_chains]
  case frame => simp [State.evaluateGroup_eq, State.trip, silent, State.setGroup]
  case trips => rw [self, GroupRec.evaluated_of_silent silent]; rfl
  case stamp => rw [self, GroupRec.evaluated_of_silent silent]; rfl
  case trips' => rw [self, GroupRec.evaluated_of_trip trips]; rfl
  case stamp' => rw [self, GroupRec.evaluated_of_trip trips]; rfl
  case records =>
    rw [State.evaluateGroup_eq, State.trip, trips, State.setGroup_eq_setGroups s, State.generate_setGroups]
    rfl

/-! ## Every group of a chain -/

/-- A group of a chain that an evaluation of the chain evaluates (R44). -/
def State.groupOf (s : State) (c : ChainNo) (n : GroupNo) : Bool := (s.group n).defined && (s.group n).chain == c

/-- The trip records of an evaluation of the groups in a list (R44, R65). -/
def State.tripsIn (s : State) (c : ChainNo) (l : List GroupNo) : List Record :=
  l.filterMap fun n => if s.groupOf c n then s.trip n else none

/-- The groups after an evaluation of those in a list (R44, R62). -/
def State.evaluatedIn (s : State) (c : ChainNo) (l : List GroupNo) : Vector GroupRec 64 :=
  Vector.ofFn fun n => if n ∈ l ∧ s.groupOf c n = true then (s.group n).evaluated (s.value n) s.run.stamp else s.group n

theorem State.group_setGroups_ofFn (s : State) (f : GroupNo → GroupRec) (n : GroupNo) :
    (s.setGroups (Vector.ofFn f)).group n = f n := by
  simp [State.group, State.setGroups]

/-- What an evaluation reads of a group. -/
theorem State.groupOf_congr {s t : State} {n : GroupNo} (g : t.group n = s.group n) (c : ChainNo) :
    t.groupOf c n = s.groupOf c n := by
  rw [State.groupOf, g, State.groupOf]

theorem State.value_congr {s t : State} {n : GroupNo} (g : t.group n = s.group n) (i : t.images = s.images) :
    t.value n = s.value n := by
  rw [State.value, State.value, g, State.image, State.image, i]

theorem State.trip_congr {s t : State} {n : GroupNo} (g : t.group n = s.group n) (i : t.images = s.images)
    (r : t.run = s.run) : t.trip n = s.trip n := by
  rw [State.trip, State.trip, g, State.value_congr g i, r]

/-- An evaluation of groups in a list without repetition: their trips generated in the list's order, and one change of
the groups. -/
theorem State.evaluate_list (c : ChainNo) (l : List GroupNo) (nodup : l.Nodup) (s : State) :
    l.foldl (fun t n => if (t.group n).defined && (t.group n).chain == c then t.evaluateGroup n else t) s =
      (s.generateAll (s.tripsIn c l)).setGroups (s.evaluatedIn c l) := by
  induction l generalizing s with
  | nil =>
    have same : s.evaluatedIn c [] = s.groups := Vector.ext fun i hi => by simp [State.evaluatedIn, State.group]
    rw [same]
    rfl
  | cons n l ih =>
    obtain ⟨fresh, rest⟩ := List.nodup_cons.mp nodup
    rw [List.foldl_cons, show ((s.group n).defined && (s.group n).chain == c) = s.groupOf c n from rfl]
    cases evaluates : s.groupOf c n with
    | false =>
      have trips : s.tripsIn c (n :: l) = s.tripsIn c l := by simp [State.tripsIn, evaluates]
      have groups : s.evaluatedIn c (n :: l) = s.evaluatedIn c l := by
        refine congrArg Vector.ofFn (funext fun m => ?_)
        by_cases same : m = n
        · subst same; simp [evaluates]
        · simp [same]
      rw [if_neg Bool.false_ne_true, ih rest, trips, groups]
    | true =>
      have others (m : GroupNo) (hm : m ≠ n) : (s.evaluateGroup n).group m = s.group m := by
        rw [State.evaluateGroup_eq, State.group_setGroup, if_neg hm, State.group_generateAll]
      have images : (s.evaluateGroup n).images = s.images := by
        rw [State.evaluateGroup_eq, State.setGroup_images, State.generateAll_images]
      have run : (s.evaluateGroup n).run = s.run := by
        rw [State.evaluateGroup_eq, State.setGroup_run, State.generateAll_run]
      have trips : (s.evaluateGroup n).tripsIn c l = s.tripsIn c l := by
        refine List.filterMap_congr fun m hm => ?_
        have apart := others m (ne_of_mem_of_not_mem hm fresh)
        rw [State.groupOf_congr apart, State.trip_congr apart images run]
      have groups : (s.evaluateGroup n).evaluatedIn c l = s.evaluatedIn c (n :: l) := by
        refine congrArg Vector.ofFn (funext fun m => ?_)
        by_cases same : m = n
        · subst same
          rw [if_neg fun h => fresh h.1, if_pos ⟨List.mem_cons_self, evaluates⟩, State.evaluateGroup_eq,
            State.group_setGroup, if_pos rfl]
        · have apart := others m same
          simp only [List.mem_cons, same, false_or, State.groupOf_congr apart, apart, State.value_congr apart images, run]
      have first : s.tripsIn c (n :: l) = (s.trip n).toList ++ s.tripsIn c l := by
        unfold State.tripsIn
        cases tripped : s.trip n with
        | none => simp [evaluates, tripped]
        | some r => simp [evaluates, tripped]
      rw [if_pos rfl, ih rest, trips, groups, first, State.generateAll_append, State.evaluateGroup_eq,
        State.setGroup_eq_setGroups, State.generateAll_setGroups, State.setGroups_setGroups]

theorem allGroups_nodup : allGroups.Nodup := List.nodup_ofFn.mpr Function.injective_id

theorem mem_allGroups (n : GroupNo) : n ∈ allGroups := List.mem_ofFn.mpr ⟨n, rfl⟩

/-- An evaluation of a chain's groups: the trips in ascending group number, and one change of the groups (R44). -/
theorem State.evaluateChain_eq (s : State) (c : ChainNo) : s.evaluateChain c =
    (s.generateAll (s.tripsIn c allGroups)).setGroups (s.evaluatedIn c allGroups) :=
  State.evaluate_list c allGroups allGroups_nodup s

/-- The groups after an evaluation of a chain. -/
theorem State.group_evaluateChain (s : State) (c : ChainNo) (n : GroupNo) : (s.evaluateChain c).group n =
    if s.groupOf c n then (s.group n).evaluated (s.value n) s.run.stamp else s.group n := by
  rw [State.evaluateChain_eq, State.evaluatedIn, State.group_setGroups_ofFn]
  simp only [mem_allGroups, true_and]

theorem State.evaluateChain_images (s : State) (c : ChainNo) : (s.evaluateChain c).images = s.images := by
  rw [State.evaluateChain_eq, State.setGroups_images, State.generateAll_images]

theorem State.evaluateChain_chains (s : State) (c : ChainNo) : (s.evaluateChain c).chains = s.chains := by
  rw [State.evaluateChain_eq, State.setGroups_chains, State.generateAll_chains]

end Sys2Proof.Machine
end

section
/-! SUPPORT. The laws of groups and images (R53, R58, R61): most work leaves groups, images and definitions as they are,
and what does not is a reconfiguration, a request of a group kind, a good read and START. -/

namespace Sys2Proof.Machine

open Sys2Proof

/-! ## Work that leaves groups, images and definitions -/

/-- `t` has the groups, images and chain definitions of `s`, and its read, if it is not that of `s`, has its chain's
length (R37). -/
structure State.Kept (s t : State) : Prop where
  groups : t.groups = s.groups
  images : t.images = s.images
  defn : ∀ d, (t.chain d).defn = (s.chain d).defn
  readLength : ∀ rd ∈ t.read, (∃ rd' ∈ s.read, rd'.chain = rd.chain ∧ rd'.length = rd.length) ∨
    rd.length = (s.chain rd.chain).defn.length

theorem State.Kept.refl (s : State) : s.Kept s := ⟨rfl, rfl, fun _ => rfl, fun rd h => .inl ⟨rd, h, rfl, rfl⟩⟩

theorem State.Kept.trans {s t u : State} (h : s.Kept t) (k : t.Kept u) : s.Kept u := by
  refine ⟨k.groups.trans h.groups, k.images.trans h.images, fun d => (k.defn d).trans (h.defn d), fun rd reading => ?_⟩
  rcases k.readLength rd reading with ⟨rd', reading', chain, length⟩ | fits
  · rcases h.readLength rd' reading' with ⟨rd'', reading'', chain', length'⟩ | fits
    · exact .inl ⟨rd'', reading'', chain'.trans chain, length'.trans length⟩
    · exact .inr (by rw [← length, fits, chain])
  · exact .inr (by rw [fits, h.defn])

/-- With the read unchanged, the groups, images and definitions are all there is to show. -/
theorem State.Kept.of_read {s t : State} (groups : t.groups = s.groups) (images : t.images = s.images)
    (defn : ∀ d, (t.chain d).defn = (s.chain d).defn) (read : t.read = s.read) : s.Kept t :=
  ⟨groups, images, defn, fun rd h => .inl ⟨rd, read ▸ h, rfl, rfl⟩⟩

section
variable (s : State)

theorem State.modChain_kept (c : ChainNo) {f : ChainRec → ChainRec} (h : ∀ r, (f r).defn = r.defn) :
    s.Kept (s.modChain c f) := by
  refine .of_read rfl rfl (fun d => ?_) rfl
  rw [State.chain_modChain]
  split
  · rename_i same; rw [h, same]
  · rfl

theorem State.chill_kept (c : ChainNo) (cs : ChainState) : s.Kept (s.chill c cs) := by
  refine .of_read rfl rfl (fun d => ?_) rfl
  rw [State.chain_chill]
  split
  · rename_i same; rw [ChainRec.chilled_defn, same]
  · rfl

theorem State.kept_of_recordPath {s t : State} (path : s.recordPath t) : s.Kept t := by
  obtain ⟨_, _, _, _, rfl, -, -⟩ := path
  exact ⟨rfl, rfl, fun _ => rfl, fun rd h => .inl ⟨rd, h, rfl, rfl⟩⟩

theorem State.generate_kept (r : Record) : s.Kept (s.generate r) := by
  obtain ⟨_, _, _, _, h, -⟩ := s.generate_changes r
  rw [h]
  exact ⟨rfl, rfl, fun _ => rfl, fun rd h => .inl ⟨rd, h, rfl, rfl⟩⟩

theorem State.answer_kept (k : SlotNo) (a : Answer) : s.Kept (s.answer k a) := by
  obtain ⟨ch, h⟩ := s.answer_changes k a
  refine .of_read (by rw [h]) (by rw [h]) (fun d => ?_) (by rw [h])
  rw [State.chain_answer]

theorem State.foldl_kept {α : Type} {f : State → α → State} (step : ∀ (s : State) (a : α), s.Kept (f s a)) (l : List α)
    (s : State) : s.Kept (l.foldl f s) := by
  induction l generalizing s with
  | nil => exact .refl s
  | cons a l ih => exact (step s a).trans (ih _)

theorem State.answerAll_kept (ks : List SlotNo) (a : Answer) : s.Kept (s.answerAll ks a) :=
  State.foldl_kept (fun t k => t.answer_kept k a) ks s

theorem State.kept_of_granted {s t : State} (h : s.granted t) : s.Kept t := by
  obtain ⟨⟨ch, l, frame, -⟩, makes⟩ := h
  refine .of_read (by rw [frame]) (by rw [frame]) (fun d => ?_) (by rw [frame])
  rcases makes d with h | ⟨-, -, h⟩ | ⟨-, -, -, h⟩ <;> rw [h]
  rfl

theorem State.grantTest_kept : s.Kept s.grantTest := State.kept_of_granted s.grantTest_changes

theorem State.startRead_kept (g : Geometry) (c : ChainNo) : s.Kept (s.startRead g c) := by
  refine ⟨rfl, rfl, fun d => by rw [State.chain_startRead_kept], fun rd reading => .inr ?_⟩
  cases reading
  rfl

theorem State.readerChoice_kept : s.Kept s.readerChoice := by
  rcases s.readerChoice_changes with h | ⟨g, c, -, -, -, -, h⟩
  · rw [h]; exact .refl s
  · rw [h]; exact s.startRead_kept g c

theorem State.joinDue_kept (c : ChainNo) : s.Kept (s.joinDue c) := by
  have joined : s.Kept { s with due := s.due ++ [c] } := .of_read rfl rfl (fun _ => rfl) rfl
  unfold State.joinDue
  split
  · exact .refl s
  · dsimp only
    split
    · exact joined.trans (State.grantTest_kept _)
    · exact joined.trans (State.readerChoice_kept _)
    all_goals exact joined

theorem State.park_kept (c : ChainNo) : s.Kept (s.park c) := by
  have parked : s.Kept ((s.chill c .cold).leaveDue c) :=
    (s.chill_kept c .cold).trans (.of_read rfl rfl (fun _ => rfl) rfl)
  unfold State.park
  dsimp only
  split
  · exact parked.trans (State.grantTest_kept _)
  · exact parked

theorem State.enterLost_kept (c : ChainNo) : s.Kept (s.enterLost c) := by
  refine .of_read rfl rfl (fun d => ?_) rfl
  rw [State.chain_enterLost]
  split
  · rename_i same; rw [same]; rfl
  · rfl

theorem State.periodExpired_kept (c : ChainNo) : s.Kept (s.periodExpired c) := by
  unfold State.periodExpired
  split
  · exact s.modChain_kept c fun _ => rfl
  · exact s.joinDue_kept c

theorem State.examine_kept (c : ChainNo) : s.Kept (s.examine c) := by
  unfold State.examine
  split
  · split
    · exact s.modChain_kept c fun _ => rfl
    · exact (s.chill_kept c .cold).trans (State.grantTest_kept _)
  · exact .refl s

theorem State.drainTest_kept : s.Kept s.drainTest := by
  obtain ⟨_, _, _, _, _, _, _, h, -, -⟩ := s.drainTest_changes
  rw [h]
  exact .of_read rfl rfl (fun _ => rfl) rfl

theorem State.settled_kept (c : ChainNo) : s.Kept (s.settled c) := by
  have warmed := s.modChain_kept c (f := fun r => { r with state := .warm, settle := none, idle := 0 }) fun _ => rfl
  refine State.Kept.trans ?_ (State.readerChoice_kept _)
  exact .of_read rfl rfl warmed.defn rfl

theorem State.handBackPlain_kept (c : ChainNo) : s.Kept (s.handBackPlain c) := by
  unfold State.handBackPlain
  split
  · exact .refl s
  · split
    · exact s.chill_kept c .cold
    · exact (s.modChain_kept c (f := fun r => { r with state := .warm, idle := 0 }) fun _ => rfl).trans
        (.of_read rfl rfl (fun _ => rfl) rfl)

theorem State.answerReads_kept (rd : ReadInProgress) (good : Bool) (judged : State) :
    s.Kept (s.answerReads rd good judged) := by
  unfold State.answerReads
  split
  · refine State.foldl_kept (fun t k => ?_) rd.attached s
    split
    · exact t.answer_kept k _
    · exact .refl t
  · split <;> exact s.answerAll_kept _ _

theorem State.recover_kept (c : ChainNo) : s.Kept (s.recover c) := by
  unfold State.recover
  split
  · exact .refl s
  · exact (s.generate_kept _).trans (State.modChain_kept _ c fun _ => rfl)

theorem State.badRead_kept (c : ChainNo) : s.Kept (s.badRead c) := by
  have counted := s.modChain_kept c (f := fun r => { r with faultRun := (s.chain c).faultRun + 1 }) fun _ => rfl
  unfold State.badRead
  dsimp only
  split
  · exact (counted.trans (State.generate_kept _ _)).trans (State.enterLost_kept _ c)
  · split
    · exact counted.trans (State.generate_kept _ _)
    · exact counted

theorem State.countRead_kept (c : ChainNo) : s.Kept (s.countRead c) := s.modChain_kept c fun _ => rfl

theorem State.abandonRead_kept (a : Answer) : s.Kept (s.abandonRead a) := by
  unfold State.abandonRead
  split
  · exact .refl s
  · rename_i rd _
    have chilled := s.chill_kept rd.chain .cold
    have abandoned : s.Kept { s.chill rd.chain .cold with read := none } :=
      ⟨rfl, rfl, chilled.defn, fun _ h => nomatch h⟩
    exact abandoned.trans (State.answerAll_kept _ _ _)

theorem State.enterDraining_kept : s.Kept s.enterDraining := by
  refine State.Kept.trans ?_ (State.answerAll_kept _ _ _)
  refine .of_read rfl rfl (fun d => ?_) rfl
  simp only [State.chain, Vector.getElem_ofFn, ChainRec.drained]
  split <;> rfl

theorem State.secondStop_kept : s.Kept s.secondStop := by
  have closed := State.kept_of_recordPath ((s.abandonRead (Answer.plain .stopped)).discardQueue.closePage_path .stop)
  have abandoned := s.abandonRead_kept (Answer.plain .stopped)
  have discarded : (s.abandonRead (Answer.plain .stopped)).Kept (s.abandonRead (Answer.plain .stopped)).discardQueue :=
    .of_read rfl rfl (fun _ => rfl) rfl
  exact (abandoned.trans (discarded.trans closed)).trans (.of_read rfl rfl (fun _ => rfl) rfl)

theorem State.tick_kept : s.Kept s.tick := by
  obtain ⟨n, q, ticked⟩ := s.tick_changes
  rw [ticked]
  refine ⟨rfl, rfl, fun d => ?_, fun rd reading => .inl ?_⟩
  · simp [State.chain, State.countTimers]
  · obtain ⟨rd', h, rfl⟩ := Option.map_eq_some_iff.mp reading
    exact ⟨rd', h, rfl, rfl⟩

theorem ReadInProgress.bit_chain (rd : ReadInProgress) (inputs : BitVec 16) : (rd.bit inputs).chain = rd.chain := by
  unfold ReadInProgress.bit
  split <;> [skip; split] <;> rfl

theorem ReadInProgress.bit_length (rd : ReadInProgress) (inputs : BitVec 16) : (rd.bit inputs).length = rd.length := by
  unfold ReadInProgress.bit
  split <;> [skip; split] <;> rfl

theorem State.chain_openRunningFrame (d : ChainNo) : s.openRunningFrame.chain d = (s.chain d).decremented := by
  simp [State.chain, State.openRunningFrame]

@[simp] theorem ChainRec.decremented_defn (r : ChainRec) : r.decremented.defn = r.defn := by
  unfold ChainRec.decremented
  split <;> rfl

end

/-- With the chains and the read as they are, groups and images are all there is to show. -/
theorem State.Kept.of_chains {s t : State} (groups : t.groups = s.groups) (images : t.images = s.images)
    (chains : t.chains = s.chains) (read : t.read = s.read) : s.Kept t :=
  .of_read groups images (fun d => by rw [State.chain, chains, State.chain]) read

theorem State.setFrame_kept (s : State) (w : FrameWork) : s.Kept (s.setFrame w) := .of_chains rfl rfl rfl rfl

theorem State.setSweep_kept (s : State) (l : List SlotNo) : s.Kept (s.setSweep l) := .of_chains rfl rfl rfl rfl

theorem State.beginTake_kept (s : State) (k : SlotNo) : s.Kept (s.beginTake k) := .of_chains rfl rfl rfl rfl

/-! ## The rest: what can change groups, images and definitions -/

/-- A take leaves groups, images and definitions, but for a reconfiguration of a chain that is not READING and for what
the requests of the group kinds do (R134, R144, R146, R147). -/
theorem State.takeSlot_kept_or (s : State) (k : SlotNo) : (s.beginTake k).Kept (s.takeSlot k) ∨
    (∃ c d, (s.chain c).state ≠ .reading ∧ ((s.beginTake k).reconfigure c d).Kept (s.takeSlot k)) ∨
    (∃ r, ((s.beginTake k).define r).Kept (s.takeSlot k)) ∨
    (∃ r : Request, ((s.beginTake k).setGroup r.group ((s.group r.group).rearmed (r.param16 1))).Kept (s.takeSlot k)) ∨
    (∃ n, ((s.beginTake k).setGroup n GroupRec.reset).Kept (s.takeSlot k)) := by
  unfold State.takeSlot
  dsimp only
  generalize s.readRequest k = r
  cases kindOf r.kind with
  | none => exact .inl (State.answer_kept _ k _)
  | some kind =>
    cases kind with
    | setChain =>
      dsimp only [State.actSetChain]
      split
      · exact .inl (State.answer_kept _ k _)
      · split
        · exact .inl (State.modChain_kept _ _ fun _ => rfl)
        · rename_i notReading
          exact .inr (.inl ⟨r.chain, r.chainDef, notReading, State.answer_kept _ k _⟩)
    | readChain =>
      dsimp only [State.actReadChain]
      split
      · exact .inl (State.answer_kept _ k _)
      · refine .inl (State.Kept.trans ?_ (State.joinDue_kept _ _))
        exact State.modChain_kept _ _ fun _ => rfl
    | parkChain =>
      dsimp only [State.actParkChain]
      split
      · exact .inl (State.answer_kept _ k _)
      · split
        · exact .inl (State.modChain_kept _ _ fun _ => rfl)
        · exact .inl ((State.park_kept _ _).trans (State.answer_kept _ k _))
    | setGroup =>
      dsimp only [State.actSetGroup]
      split
      · exact .inl (State.answer_kept _ k _)
      · exact .inr (.inr (.inl ⟨r, State.answer_kept _ k _⟩))
    | rearmGroup =>
      dsimp only [State.actRearm]
      split
      · exact .inl (State.answer_kept _ k _)
      · exact .inr (.inr (.inr (.inl ⟨r, State.answer_kept _ k _⟩)))
    | dropGroup =>
      dsimp only [State.actDrop]
      split
      · exact .inl (State.answer_kept _ k _)
      · exact .inr (.inr (.inr (.inr ⟨r.group, State.answer_kept _ k _⟩)))
    | flush =>
      dsimp only [State.actFlush]
      split
      · exact .inl (State.answer_kept _ k _)
      · exact .inl ((State.kept_of_recordPath (State.closePage_path _ _)).trans (State.answer_kept _ k _))

/-- An event leaves groups, images and definitions, but for a take, a read completion, START and the resets. -/
theorem State.Event.kept_or {s t : State} (e : s.Event t) : s.Kept t ∨
    (∃ k rest, t = (s.setSweep rest).takeSlot k) ∨
    (∃ rd, s.read = some rd ∧ t = (s.finishRead rd).readerChoice.drainTest) ∨
    (t.groups = Vector.replicate 64 GroupRec.reset ∧ t.images = Vector.replicate 16 Image.reset ∧ t.read = none) ∨
    t = s.acceptStart := by
  cases e with
  | hardReset | softReset => exact .inr (.inr (.inr (.inl ⟨rfl, rfl, rfl⟩)))
  | acceptStart => exact .inr (.inr (.inr (.inr rfl)))
  | @take k rest => exact .inr (.inl ⟨k, rest, rfl⟩)
  | @completion rd reading => exact .inr (.inr (.inl ⟨rd, reading, rfl⟩))
  | hostByte a b =>
    refine .inl ?_
    unfold State.hostByte
    split
    · exact .of_chains rfl rfl rfl rfl
    · exact .refl s
  | enterDraining => exact .inl s.enterDraining_kept
  | secondStop => exact .inl s.secondStop_kept
  | openRunning =>
    exact .inl (.of_read rfl rfl (fun d => by rw [State.chain_openRunningFrame, ChainRec.decremented_defn]) rfl)
  | @takeExpiry c rest =>
    exact .inl ((s.setFrame_kept { s.frame with expiries := rest }).trans (State.periodExpired_kept _ c))
  | examine c => exact .inl (s.examine_kept c)
  | pageWriterWork =>
    exact .inl ((s.setFrame_kept { s.frame with pageWork := false }).trans
      (State.kept_of_recordPath s.pageWriterWork_path))
  | drainTest => exact .inl s.drainTest_kept
  | staleCompletion c => exact .inl (s.modChain_kept c fun _ => rfl)
  | @settled c => exact .inl (s.settled_kept c)
  | grant granted => exact .inl (State.kept_of_granted (State.grantOne_changes granted))
  | readerChoice => exact .inl s.readerChoice_kept
  | @bit rd inputs reading =>
    refine .inl ⟨rfl, rfl, fun _ => rfl, fun rd' h => .inl ⟨rd, reading, ?_⟩⟩
    cases h
    exact ⟨(rd.bit_chain inputs).symm, (rd.bit_length inputs).symm⟩
  | overrunRecord =>
    obtain ⟨r, placed⟩ := s.placeOverrun_changes
    rw [placed]
    exact .inl (State.Kept.trans (t := { s with records := r }) (.of_chains rfl rfl rfl rfl)
      (State.kept_of_recordPath (State.pump_path _)))
  | tick => exact .inl s.tick_kept
  | nresetRise | initEnd | outside | clearFlags | setEnables | refuseStart | openDraining | dropCoolDowns | passSweep =>
    exact .inl (.of_chains rfl rfl rfl rfl)

/-- A property that stands while groups, images and definitions stand, and that a reconfiguration and the requests of the
group kinds keep. -/
structure Definitional (Q : State → Prop) : Prop where
  kept : ∀ {s t : State}, s.Kept t → Q s → Q t
  reconfigure : ∀ (s : State) (c : ChainNo) (d : ChainDef), Q s → Q (s.reconfigure c d)
  define : ∀ (s : State) (r : Request), Q s → Q (s.define r)
  rearm : ∀ (s : State) (r : Request), Q s → Q (s.setGroup r.group ((s.group r.group).rearmed (r.param16 1)))
  drop : ∀ (s : State) (n : GroupNo), Q s → Q (s.setGroup n GroupRec.reset)

namespace Definitional
variable {Q : State → Prop} (closed : Definitional Q) {s : State}
include closed

theorem takeSlot (h : Q s) (k : SlotNo) : Q (s.takeSlot k) := by
  have begun : Q (s.beginTake k) := closed.kept (s.beginTake_kept k) h
  rcases s.takeSlot_kept_or k with kept | ⟨c, d, -, kept⟩ | ⟨r, kept⟩ | ⟨r, kept⟩ | ⟨n, kept⟩
  · exact closed.kept kept begun
  · exact closed.kept kept (closed.reconfigure _ c d begun)
  · exact closed.kept kept (closed.define _ r begun)
  · exact closed.kept kept (closed.rearm _ r begun)
  · exact closed.kept kept (closed.drop _ n begun)

theorem handBack (h : Q s) (c : ChainNo) : Q (s.handBack c) := by
  have plain : Q (s.handBackPlain c).grantTest :=
    closed.kept ((s.handBackPlain_kept c).trans (State.grantTest_kept _)) h
  unfold State.handBack
  split
  · exact plain
  · rename_i k _
    split
    · rename_i r _
      refine closed.kept (State.grantTest_kept _) ?_
      unfold State.handBackDeferred
      split
      · exact closed.kept (State.answer_kept _ k _) (closed.reconfigure s c _ h)
      · split
        · exact closed.kept (State.answer_kept _ k _) h
        · exact closed.kept ((s.park_kept c).trans (State.answer_kept _ k _)) h
    · exact plain

/-- A read completion keeps what its stages up to the judgement keep. -/
theorem completion (rd : ReadInProgress) (judged : Q ((s.countRead rd.chain).judgeRead rd)) :
    Q (s.finishRead rd).readerChoice.drainTest := by
  have answered := closed.kept (State.answerReads_kept _ rd ((s.countRead rd.chain).readGood rd)
    ((s.countRead rd.chain).judgeRead rd)) (closed.handBack judged rd.chain)
  have ended : ((((s.countRead rd.chain).judgeRead rd).handBack rd.chain).answerReads rd
      ((s.countRead rd.chain).readGood rd) ((s.countRead rd.chain).judgeRead rd)).Kept (s.finishRead rd) :=
    ⟨rfl, rfl, fun _ => rfl, fun _ h => nomatch h⟩
  exact closed.kept ((State.readerChoice_kept _).trans (State.drainTest_kept _)) (closed.kept ended answered)

/-- An event keeps it if a read completion's judgement, START and the reset values do. -/
theorem event {t : State} (e : s.Event t) (h : Q s)
    (judged : ∀ rd, s.read = some rd → Q ((s.countRead rd.chain).judgeRead rd))
    (reset : t.groups = Vector.replicate 64 GroupRec.reset → t.images = Vector.replicate 16 Image.reset → Q t)
    (started : Q s.acceptStart) : Q t := by
  rcases e.kept_or with kept | ⟨k, rest, rfl⟩ | ⟨rd, reading, rfl⟩ | ⟨groups, images, -⟩ | rfl
  · exact closed.kept kept h
  · exact closed.takeSlot (closed.kept (s.setSweep_kept rest) h) k
  · exact closed.completion rd (judged rd reading)
  · exact reset groups images
  · exact started

end Definitional

end Sys2Proof.Machine
end

section
/-! SUPPORT. The group law (R58, R61) and the image law (R37, R53, R58). -/

namespace Sys2Proof.Machine

open Sys2Proof

/-! ## One group -/

/-- The judgement of a value agrees with the compare pattern (R60, R61). -/
theorem GroupRec.judge_conform {g : GroupRec} {v : Half} : g.judge v = .conform ↔ v = g.compare &&& g.mask := by
  unfold GroupRec.judge
  split <;> simp_all

theorem GroupRec.judge_diverged {g : GroupRec} {v : Half} : g.judge v = .diverged ↔ v ≠ g.compare &&& g.mask := by
  unfold GroupRec.judge
  split <;> simp_all

theorem GroupRec.judge_ne_unset (g : GroupRec) (v : Half) : g.judge v ≠ .unset := by
  unfold GroupRec.judge
  split <;> simp

/-- What the group law says of one group's record, on a chain that is primed or not. -/
structure GroupRec.Sound (g : GroupRec) (primed : Bool) : Prop where
  unset : g.state = .unset → g.last = 0
  conform : g.state = .conform → g.last = g.compare &&& g.mask
  diverged : g.state = .diverged → g.last ≠ g.compare &&& g.mask
  unprimed : primed = false → g.state = .unset

theorem State.groupLaw_iff {s : State} : s.groupLaw ↔
    ∀ n, (s.group n).defined = true → (s.group n).Sound (s.image (s.group n).chain).primed := by
  refine forall_congr' fun n => imp_congr_right fun _ => ?_
  exact ⟨fun ⟨h1, h2, h3, h4⟩ => ⟨h1, h2, h3, h4⟩, fun ⟨h1, h2, h3, h4⟩ => ⟨h1, h2, h3, h4⟩⟩

/-- A group UNSET with last value 0 is sound on any chain. -/
theorem GroupRec.sound_of_unset {g : GroupRec} (state : g.state = .unset) (last : g.last = 0) (primed : Bool) :
    g.Sound primed :=
  ⟨fun _ => last, by simp [state], by simp [state], fun _ => state⟩

/-- A group whose state is the judgement of its last value is sound on a primed chain. -/
theorem GroupRec.sound_of_judged {g : GroupRec} (state : g.state = g.judge g.last) : g.Sound true := by
  refine ⟨fun h => ?_, fun h => ?_, fun h => ?_, fun h => nomatch h⟩
  · exact absurd (state.symm.trans h) (g.judge_ne_unset _)
  · exact GroupRec.judge_conform.mp (state.symm.trans h)
  · exact GroupRec.judge_diverged.mp (state.symm.trans h)

/-- A re-armed group is sound where it was (R67). -/
theorem GroupRec.sound_rearmed {g : GroupRec} {primed : Bool} (h : g.Sound primed) (pattern : Half) :
    (g.rearmed pattern).Sound primed := by
  have judged (set : g.state ≠ .unset)
      (state : (g.rearmed pattern).state = (g.rearmed pattern).judge (g.rearmed pattern).last) :
      (g.rearmed pattern).Sound primed := by
    cases primed with
    | true => exact GroupRec.sound_of_judged state
    | false => exact absurd (h.unprimed rfl) set
  cases state : g.state with
  | unset =>
    refine GroupRec.sound_of_unset ?_ ?_ primed <;> simp [GroupRec.rearmed, state, h.unset state]
  | conform => exact judged (by simp [state]) (by simp [GroupRec.rearmed, state]; rfl)
  | diverged => exact judged (by simp [state]) (by simp [GroupRec.rearmed, state]; rfl)

@[simp] theorem GroupRec.rearmed_defined (g : GroupRec) (p : Half) : (g.rearmed p).defined = g.defined := by
  unfold GroupRec.rearmed; split <;> rfl

@[simp] theorem GroupRec.rearmed_chain (g : GroupRec) (p : Half) : (g.rearmed p).chain = g.chain := by
  unfold GroupRec.rearmed; split <;> rfl

/-! ## The group law, event by event -/

theorem State.groupLaw_reconfigure {s : State} (h : s.groupLaw) (c : ChainNo) (d : ChainDef) :
    (s.reconfigure c d).groupLaw := by
  obtain ⟨ch, l, frame, -⟩ := s.reconfigure_changes c d
  have groups (n : GroupNo) : (s.reconfigure c d).group n = (s.unprime c).group n := by rw [frame]; rfl
  have images (e : ChainNo) : (s.reconfigure c d).image e = (s.unprime c).image e := by rw [frame]; rfl
  rw [State.groupLaw_iff] at h ⊢
  intro n
  rw [groups, images, State.group_unprime]
  split
  · exact fun _ => GroupRec.sound_of_unset rfl rfl _
  · rename_i other
    intro defined
    have apart : (s.group n).chain ≠ c := by simpa [defined] using other
    rw [State.image_unprime, if_neg apart]
    exact h n defined

theorem State.group_define (s : State) (r : Request) (n : GroupNo) : (s.define r).group n =
    if n = r.group then
      (if (s.image r.groupRec.chain).primed then r.groupRec.settleOn (r.groupRec.masked (s.image r.groupRec.chain))
       else r.groupRec)
    else s.group n := by
  unfold State.define
  dsimp only
  split <;> rw [State.group_setGroup]

theorem State.define_images (s : State) (r : Request) : (s.define r).images = s.images := by
  unfold State.define
  dsimp only
  split <;> rfl

theorem State.groupLaw_define {s : State} (h : s.groupLaw) (r : Request) : (s.define r).groupLaw := by
  have images (c : ChainNo) : (s.define r).image c = s.image c := by rw [State.image, State.define_images, State.image]
  rw [State.groupLaw_iff] at h ⊢
  intro n
  rw [images, State.group_define]
  by_cases same : n = r.group
  · rw [if_pos same]
    cases primed : (s.image r.groupRec.chain).primed with
    | true =>
      have chain : (s.image (r.groupRec.settleOn (r.groupRec.masked (s.image r.groupRec.chain))).chain).primed = true :=
        primed
      rw [if_pos rfl, chain]
      exact fun _ => GroupRec.sound_of_judged rfl
    | false => exact fun _ => GroupRec.sound_of_unset rfl rfl _
  · rw [if_neg same]
    exact h n

theorem State.groupLaw_setGroup {s : State} (h : s.groupLaw) {m : GroupNo} {g : GroupRec}
    (sound : g.defined = true → g.Sound (s.image g.chain).primed) : (s.setGroup m g).groupLaw := by
  rw [State.groupLaw_iff] at h ⊢
  intro n
  rw [State.group_setGroup, State.setGroup_image]
  split
  · exact sound
  · exact h n

theorem groupLaw_definitional : Definitional State.groupLaw where
  kept k h := by
    intro n
    rw [State.group, k.groups, State.image, k.images]
    exact h n
  reconfigure s c d h := State.groupLaw_reconfigure h c d
  define s r h := State.groupLaw_define h r
  rearm s r h := by
    refine State.groupLaw_setGroup h fun defined => ?_
    rw [GroupRec.rearmed_defined] at defined
    rw [GroupRec.rearmed_chain]
    exact GroupRec.sound_rearmed (State.groupLaw_iff.mp h _ defined) _
  drop s n h := State.groupLaw_setGroup h fun defined => nomatch defined

/-- A good read primes its chain and settles each of its groups on a value (R44, R55, R62). -/
theorem State.groupLaw_filterRead {s : State} (h : s.groupLaw) (rd : ReadInProgress) : (s.filterRead rd).groupLaw := by
  rw [State.groupLaw_iff] at h ⊢
  intro n
  unfold State.filterRead
  generalize filtered : (s.image rd.chain).filter rd.length (s.chain rd.chain).defn.depth rd.received = i
  have primed : i.primed = true := by rw [← filtered, Image.filter_primed]
  have images (c : ChainNo) : ((s.setImage rd.chain i).evaluateChain rd.chain).image c =
      if c = rd.chain then i else s.image c := by
    rw [State.image, State.evaluateChain_images, ← State.image_setImage]
    rfl
  dsimp only
  rw [State.group_evaluateChain, images]
  cases evaluates : (s.setImage rd.chain i).groupOf rd.chain n with
  | true =>
    obtain ⟨-, chain⟩ : _ ∧ (s.group n).chain = rd.chain := by simpa [State.groupOf] using evaluates
    rw [if_pos rfl, GroupRec.evaluated_chain, State.setImage_group, if_pos chain, primed]
    intro _
    refine GroupRec.sound_of_judged ?_
    rw [GroupRec.evaluated_state, GroupRec.evaluated_last, GroupRec.judge, GroupRec.judge, GroupRec.evaluated_compare,
      GroupRec.evaluated_mask]
  | false =>
    rw [if_neg Bool.false_ne_true, State.setImage_group]
    intro defined
    have apart : (s.group n).chain ≠ rd.chain := by simpa [State.groupOf, defined] using evaluates
    rw [if_neg apart]
    exact h n defined

theorem State.group_acceptStart (s : State) (n : GroupNo) : s.acceptStart.group n = (s.group n).started := by
  simp [State.group, State.acceptStart]

theorem State.groupLaw_acceptStart (s : State) : s.acceptStart.groupLaw := by
  rw [State.groupLaw_iff]
  intro n
  rw [State.group_acceptStart]
  exact fun _ => GroupRec.sound_of_unset rfl rfl _

theorem State.Event.groupLaw {s t : State} (e : s.Event t) (h : s.groupLaw) : t.groupLaw := by
  refine groupLaw_definitional.event e h (fun rd _ => ?_) (fun groups _ => State.groupLaw_of_reset groups)
    s.groupLaw_acceptStart
  have counted := groupLaw_definitional.kept (s.countRead_kept rd.chain) h
  unfold State.judgeRead
  split
  · exact State.groupLaw_filterRead (groupLaw_definitional.kept (State.recover_kept _ _) counted) rd
  · exact groupLaw_definitional.kept (State.badRead_kept _ _) counted

/-- Settles O58: every change of a group's state or last value is a judgement of the value, or clears both. -/
theorem stepKeepsGroupStateLaw : Obligations.StepKeepsGroupStateLaw := fun _ _ h =>
  step_keeps (H := fun _ => True) (fun _ _ _ _ => trivial) (fun _ _ e _ => e.groupLaw) trivial h

/-! ## The image law -/

/-- What the image law says of one chain's image and definition. -/
structure Image.Fits (i : Image) (d : ChainDef) : Prop where
  beyond : ∀ k, k < 128 → d.length ≤ k → i.point k = Point.reset
  counter : ∀ k, k < 128 → (i.point k).counter ≠ 0 → (i.point k).counter < d.depth
  unprimed : i.primed = false → i = Image.reset

/-- The image law but for the read in progress. -/
def State.imagesFit (s : State) : Prop := ∀ c, (s.image c).Fits (s.chain c).defn

theorem State.imageLaw_iff {s : State} : s.imageLaw ↔
    s.imagesFit ∧ ∀ rd ∈ s.read, rd.length = (s.chain rd.chain).defn.length := by
  constructor
  · rintro ⟨points, unprimed, read⟩
    exact ⟨fun c => ⟨fun k hk => (points c k hk).1, fun k hk => (points c k hk).2, unprimed c⟩, read⟩
  · rintro ⟨fits, read⟩
    exact ⟨fun c k hk => ⟨(fits c).beyond k hk, (fits c).counter k hk⟩, fun c => (fits c).unprimed, read⟩

theorem Image.reset_fits (d : ChainDef) : Image.reset.Fits d :=
  ⟨fun k _ _ => by simp, fun k _ h => absurd (by simp [Point.reset]) h, fun _ => rfl⟩

/-- A good read of a chain's whole length fits its definition (R53 to R56). -/
theorem Image.filter_fits {i : Image} {d : ChainDef} (h : i.Fits d) (bits : List Bool) :
    (i.filter d.length d.depth bits).Fits d := by
  refine ⟨fun k hk past => ?_, fun k hk counts => ?_, fun unprimed => ?_⟩
  · rw [Image.filter_point_beyond i past]
    exact h.beyond k hk past
  · rcases Nat.lt_or_ge k d.length with inside | past
    · cases primed : i.primed with
      | false =>
        rw [Image.filter_point_unprimed primed inside hk] at counts
        exact absurd rfl counts
      | true =>
        rw [Image.filter_point_primed primed inside hk] at counts ⊢
        unfold Point.debounce at counts ⊢
        split at counts
        · exact absurd rfl counts
        · split at counts
          · rename_i differs short
            rw [if_neg differs, if_pos short]
            exact short
          · exact absurd rfl counts
    · rw [Image.filter_point_beyond i past] at counts ⊢
      exact h.counter k hk counts
  · rw [Image.filter_primed] at unprimed
    cases unprimed

theorem imagesFit_definitional : Definitional State.imagesFit where
  kept k h := by
    intro c
    rw [State.image, k.images, k.defn]
    exact h c
  reconfigure s c d h := by
    obtain ⟨ch, l, frame, -⟩ := s.reconfigure_changes c d
    intro e
    have image : (s.reconfigure c d).image e = (s.unprime c).image e := by rw [frame]; rfl
    rw [image, State.image_unprime]
    split
    · exact Image.reset_fits _
    · rename_i other
      rw [State.chain_reconfigure_other s d other]
      exact h e
  define s r h := by
    intro c
    have chains : (s.define r).chain c = s.chain c := by
      unfold State.define
      dsimp only
      split <;> rfl
    rw [State.image, State.define_images, chains]
    exact h c
  rearm s r h := h
  drop s n h := h

theorem State.imagesFit_filterRead {s : State} (h : s.imagesFit) {rd : ReadInProgress}
    (length : rd.length = (s.chain rd.chain).defn.length) : (s.filterRead rd).imagesFit := by
  intro c
  have image : (s.filterRead rd).image c = if c = rd.chain then
      (s.image rd.chain).filter rd.length (s.chain rd.chain).defn.depth rd.received else s.image c := by
    rw [← State.image_setImage, State.image, State.filterRead, State.evaluateChain_images]
    rfl
  have chain : (s.filterRead rd).chain c = s.chain c := by
    rw [State.chain, State.filterRead, State.evaluateChain_chains]
    rfl
  rw [image, chain]
  split
  · rename_i same
    rw [same, length]
    exact Image.filter_fits (h rd.chain) _
  · exact h c

theorem State.chain_acceptStart (s : State) (c : ChainNo) : s.acceptStart.chain c = (s.chain c).started := by
  simp [State.chain, State.acceptStart]

theorem State.imagesFit_acceptStart (s : State) : s.acceptStart.imagesFit := by
  intro c
  rw [State.image_of_reset (s := s.acceptStart) rfl]
  exact Image.reset_fits _

theorem State.Event.imagesFit {s t : State} (e : s.Event t) (h : s.imageLaw) : t.imagesFit := by
  obtain ⟨fits, lengths⟩ := State.imageLaw_iff.mp h
  refine imagesFit_definitional.event e fits (fun rd reading => ?_) (fun _ images c => ?_) s.imagesFit_acceptStart
  · have counted := s.countRead_kept rd.chain
    have countedFits := imagesFit_definitional.kept counted fits
    unfold State.judgeRead
    split
    · have recovered := counted.trans (State.recover_kept (s.countRead rd.chain) rd.chain)
      refine State.imagesFit_filterRead (imagesFit_definitional.kept recovered fits) ?_
      rw [recovered.defn]
      exact lengths rd reading
    · exact imagesFit_definitional.kept (State.badRead_kept _ _) countedFits
  · rw [State.image_of_reset images]
    exact Image.reset_fits _

/-- What the image law says of the read in progress. -/
def State.readFits (s : State) : Prop := ∀ rd ∈ s.read, rd.length = (s.chain rd.chain).defn.length

theorem State.readFits_of_kept {s t : State} (k : s.Kept t) (h : s.readFits) : t.readFits := by
  intro rd reading
  rw [k.defn]
  rcases k.readLength rd reading with ⟨rd', reading', chain, length⟩ | fits
  · rw [← length, ← chain]
    exact h rd' reading'
  · exact fits

theorem State.readFits_of_idle {s : State} (h : s.read = none) : s.readFits := fun rd reading => by
  rw [h] at reading
  cases reading

/-- A take reconfigures no chain that is being read (R21). -/
theorem State.readFits_takeSlot {s : State} (h : s.readFits) (reading : ∀ rd ∈ s.read, (s.chain rd.chain).state = .reading)
    (k : SlotNo) : (s.takeSlot k).readFits := by
  have begun : (s.beginTake k).readFits := h
  rcases s.takeSlot_kept_or k with kept | ⟨c, d, notReading, kept⟩ | ⟨r, kept⟩ | ⟨r, kept⟩ | ⟨n, kept⟩
  · exact State.readFits_of_kept kept begun
  · refine State.readFits_of_kept kept fun rd progress => ?_
    obtain ⟨ch, l, frame, -⟩ := (s.beginTake k).reconfigure_changes c d
    have same : rd ∈ s.read := by rw [frame] at progress; exact progress
    have other : rd.chain ≠ c := fun e => notReading (e ▸ reading rd same)
    rw [State.chain_reconfigure_other _ d other]
    exact h rd same
  · refine State.readFits_of_kept kept ?_
    unfold State.define
    dsimp only
    split <;> exact h
  · exact State.readFits_of_kept kept h
  · exact State.readFits_of_kept kept h

theorem State.Event.readFits {s t : State} (e : s.Event t) (h : s.readFits)
    (reading : ∀ rd ∈ s.read, (s.chain rd.chain).state = .reading) : t.readFits := by
  rcases e.kept_or with kept | ⟨k, rest, rfl⟩ | ⟨rd, -, rfl⟩ | ⟨-, -, idle⟩ | rfl
  · exact State.readFits_of_kept kept h
  · exact State.readFits_takeSlot (s := s.setSweep rest) h reading k
  · exact State.readFits_of_kept ((State.readerChoice_kept _).trans (State.drainTest_kept _))
      (State.readFits_of_idle (s := s.finishRead rd) rfl)
  · exact State.readFits_of_idle idle
  · exact State.readFits_of_idle rfl

end Sys2Proof.Machine
end

section
/-! SUPPORT. The excitation law (R3 to R12, R24, R32): what each operation of the warm set, the due queue and the reader
does to it. -/

namespace Sys2Proof.Machine

open Sys2Proof

/-! ## Counting chains -/

theorem allChains_nodup : allChains.Nodup := by decide

theorem mem_allChains (c : ChainNo) : c ∈ allChains := by
  revert c
  decide

/-- Two counts that differ at one member of a list without repetition. -/
theorem countP_update {α : Type} {l : List α} (nodup : l.Nodup) {c : α} (member : c ∈ l) {p q : α → Bool}
    (others : ∀ d, d ≠ c → p d = q d) : l.countP p + (q c).toNat = l.countP q + (p c).toNat := by
  induction l with
  | nil => cases member
  | cons d l ih =>
    obtain ⟨fresh, rest⟩ := List.nodup_cons.mp nodup
    rw [List.countP_cons, List.countP_cons]
    by_cases same : d = c
    · subst same
      have apart : l.countP p = l.countP q :=
        List.countP_congr fun e he => by rw [others e (ne_of_mem_of_not_mem he fresh)]
      rw [apart]
      cases p d <;> cases q d <;> rfl
    · have := ih rest ((List.mem_cons.mp member).resolve_left (Ne.symm same))
      rw [others d same]
      omega

/-- The warm set when one chain's state changes (R5). -/
theorem State.warmCount_update {s t : State} {c : ChainNo} (others : ∀ d, d ≠ c → (t.chain d).state = (s.chain d).state) :
    t.warmCount + (s.chain c).state.excited.toNat = s.warmCount + (t.chain c).state.excited.toNat :=
  countP_update (p := fun d => (t.chain d).state.excited) (q := fun d => (s.chain d).state.excited) allChains_nodup
    (mem_allChains c) fun d h => by rw [others d h]

/-! ## Work that leaves the warm set -/

/-- `t` has the LRU order, the due queue, the outstanding frame work, the run and the chain states of `s`. -/
structure State.SameWarmth (s t : State) : Prop where
  lru : t.lru = s.lru
  due : t.due = s.due
  frame : t.frame = s.frame
  run : t.run.state = s.run.state
  geometry : t.run.geometry = s.run.geometry
  state : ∀ d, (t.chain d).state = (s.chain d).state
  settle : ∀ d, (t.chain d).settle.isSome = (s.chain d).settle.isSome

theorem State.SameWarmth.refl (s : State) : s.SameWarmth s := ⟨rfl, rfl, rfl, rfl, rfl, fun _ => rfl, fun _ => rfl⟩

theorem State.SameWarmth.trans {s t u : State} (h : s.SameWarmth t) (k : t.SameWarmth u) : s.SameWarmth u :=
  ⟨k.lru.trans h.lru, k.due.trans h.due, k.frame.trans h.frame, k.run.trans h.run,
    k.geometry.trans h.geometry, fun d => (k.state d).trans (h.state d), fun d => (k.settle d).trans (h.settle d)⟩

theorem State.SameWarmth.warmCount {s t : State} (h : s.SameWarmth t) : t.warmCount = s.warmCount := by
  simp only [State.warmCount, h.state]

theorem State.Warmth.of_same {s t : State} {reader : Option ChainNo} (h : s.Warmth reader) (k : s.SameWarmth t) :
    t.Warmth reader := by
  have count := k.warmCount
  obtain ⟨lru, due, frame, run, geometry, state, settle⟩ := k
  have limit : t.warmLimit = s.warmLimit := by rw [State.warmLimit, geometry, State.warmLimit]
  constructor <;> simp only [lru, due, frame, run, state, settle, count, limit]
  exacts [h.lruNodup, h.lru_iff, h.dueNodup, h.dueAlive, h.expiriesAlive, h.settlingDue, h.settle_iff, h.reading_iff,
    h.withinLimit, h.dueRunning, h.frameRunning, h.excitedRunning]

section
variable (s : State)

theorem State.modChain_sameWarmth (c : ChainNo) {f : ChainRec → ChainRec} (state : ∀ r, (f r).state = r.state)
    (settle : ∀ r, (f r).settle = r.settle) : s.SameWarmth (s.modChain c f) := by
  refine ⟨rfl, rfl, rfl, rfl, rfl, fun d => ?_, fun d => ?_⟩ <;> rw [State.chain_modChain] <;> split
  · rename_i same; rw [state, same]
  · rfl
  · rename_i same; rw [settle, same]
  · rfl

theorem State.sameWarmth_of_recordPath {s t : State} (path : s.recordPath t) : s.SameWarmth t := by
  obtain ⟨_, _, _, _, rfl, -, -⟩ := path
  exact ⟨rfl, rfl, rfl, rfl, rfl, fun _ => rfl, fun _ => rfl⟩

theorem State.generate_sameWarmth (r : Record) : s.SameWarmth (s.generate r) := by
  obtain ⟨_, _, _, _, h, -⟩ := s.generate_changes r
  rw [h]
  exact ⟨rfl, rfl, rfl, rfl, rfl, fun _ => rfl, fun _ => rfl⟩

theorem State.answer_sameWarmth (k : SlotNo) (a : Answer) : s.SameWarmth (s.answer k a) := by
  obtain ⟨ch, h⟩ := s.answer_changes k a
  refine ⟨by rw [h], by rw [h], by rw [h], by rw [h], by rw [h], fun d => ?_, fun d => ?_⟩ <;> rw [State.chain_answer]

theorem State.foldl_sameWarmth {α : Type} {f : State → α → State} (step : ∀ (s : State) (a : α), s.SameWarmth (f s a))
    (l : List α) (s : State) : s.SameWarmth (l.foldl f s) := by
  induction l generalizing s with
  | nil => exact .refl s
  | cons a l ih => exact (step s a).trans (ih _)

theorem State.answerAll_sameWarmth (ks : List SlotNo) (a : Answer) : s.SameWarmth (s.answerAll ks a) :=
  State.foldl_sameWarmth (fun t k => t.answer_sameWarmth k a) ks s

theorem State.answerReads_sameWarmth (rd : ReadInProgress) (good : Bool) (judged : State) :
    s.SameWarmth (s.answerReads rd good judged) := by
  unfold State.answerReads
  split
  · refine State.foldl_sameWarmth (fun t k => ?_) rd.attached s
    split
    · exact t.answer_sameWarmth k _
    · exact .refl t
  · split <;> exact s.answerAll_sameWarmth _ _

theorem State.filterRead_sameWarmth (rd : ReadInProgress) : s.SameWarmth (s.filterRead rd) := by
  unfold State.filterRead
  dsimp only
  rw [State.evaluateChain_eq]
  generalize (s.image rd.chain).filter rd.length (s.chain rd.chain).defn.depth rd.received = i
  obtain ⟨_, _, _, _, generated, -⟩ := (s.setImage rd.chain i).generateAll_changes
    ((s.setImage rd.chain i).tripsIn rd.chain allGroups)
  rw [generated]
  exact ⟨rfl, rfl, rfl, rfl, rfl, fun _ => rfl, fun _ => rfl⟩

theorem State.recover_sameWarmth (c : ChainNo) : s.SameWarmth (s.recover c) := by
  unfold State.recover
  split
  · exact .refl s
  · exact (s.generate_sameWarmth _).trans (State.modChain_sameWarmth _ c (fun _ => rfl) fun _ => rfl)

theorem State.define_sameWarmth (r : Request) : s.SameWarmth (s.define r) := by
  unfold State.define
  dsimp only
  split <;> exact ⟨rfl, rfl, rfl, rfl, rfl, fun _ => rfl, fun _ => rfl⟩

end

/-! ## Into and out of the warm set -/

/-- The reader when a chain leaves it. -/
def readerWithout (reader : Option ChainNo) (c : ChainNo) : Option ChainNo := if reader = some c then none else reader

theorem readerWithout_eq {reader : Option ChainNo} {c d : ChainNo} :
    readerWithout reader c = some d ↔ d ≠ c ∧ reader = some d := by
  unfold readerWithout
  split
  · rename_i h
    rw [h]
    simp only [reduceCtorEq, Option.some.injEq, false_iff, not_and]
    exact fun apart e => apart e.symm
  · rename_i h
    exact ⟨fun e => ⟨fun same => h (same ▸ e), e⟩, fun ⟨_, e⟩ => e⟩

/-- A chain goes COLD, OFF or LOST: out of the LRU order, its settle timer gone, and out of the due queue and the
outstanding period expiries if it is not COLD (R12, R19, R22, R23). -/
theorem State.Warmth.cooled {s t : State} {reader : Option ChainNo} (h : s.Warmth reader) {c : ChainNo}
    (lru : t.lru = s.lru.filter (· != c)) (due : t.due = s.due ∨ t.due = s.due.filter (· != c))
    (frame : t.frame = s.frame ∨ t.frame = { s.frame with expiries := s.frame.expiries.filter (· != c) })
    (run : t.run = s.run) (out : (t.chain c).state.excited = false) (settle : (t.chain c).settle = none)
    (alive : (t.chain c).state ≠ .cold → c ∉ t.due ∧ c ∉ t.frame.expiries)
    (others : ∀ d, d ≠ c → (t.chain d).state = (s.chain d).state ∧
      (t.chain d).settle.isSome = (s.chain d).settle.isSome) :
    t.Warmth (readerWithout reader c) := by
  have dueSub : t.due.Sublist s.due := by
    rcases due with e | e <;> rw [e]
    exact List.filter_sublist
  have dueOthers {d : ChainNo} (apart : d ≠ c) (m : d ∈ s.due) : d ∈ t.due := by
    rcases due with e | e <;> rw [e]
    · exact m
    · exact List.mem_filter.mpr ⟨m, by simpa using apart⟩
  have expiriesSub : t.frame.expiries ⊆ s.frame.expiries := by
    rcases frame with e | e <;> rw [e]
    · exact List.Subset.refl _
    · exact List.filter_subset_self _
  have frameRest : t.frame.coolDowns = s.frame.coolDowns ∧ t.frame.sweep = s.frame.sweep := by
    rcases frame with e | e <;> rw [e] <;> exact ⟨rfl, rfl⟩
  have aliveAt {d : ChainNo} (same : d = c) (m : d ∈ t.due ∨ d ∈ t.frame.expiries) :
      (t.chain d).state ≠ .off ∧ (t.chain d).state ≠ .lost := by
    subst same
    have cold : (t.chain d).state = .cold := by
      by_contra notCold
      exact m.elim (alive notCold).1 (alive notCold).2
    simp [cold]
  have notIn {st : ChainState} (excited : st.excited = true) : (t.chain c).state ≠ st := by
    intro e
    rw [e, excited] at out
    cases out
  have stay (notRunning : s.run.state ≠ .running) (d : ChainNo) (excited : (t.chain d).state.excited = true) :
      d ≠ c ∧ (s.chain d).state = .reading := by
    have apart : d ≠ c := by
      rintro rfl
      rw [out] at excited
      cases excited
    exact ⟨apart, h.excitedRunning notRunning d ((others d apart).1 ▸ excited)⟩
  constructor
  case lruNodup => rw [lru]; exact h.lruNodup.filter _
  case lru_iff =>
    intro d
    rw [lru, List.mem_filter, h.lru_iff]
    by_cases same : d = c
    · subst same; simpa using notIn rfl
    · simp [same, (others d same).1]
  case dueNodup => exact h.dueNodup.sublist dueSub
  case dueAlive =>
    intro d m
    by_cases same : d = c
    · exact aliveAt same (.inl m)
    · rw [(others d same).1]
      exact h.dueAlive d (dueSub.subset m)
  case expiriesAlive =>
    intro d m
    by_cases same : d = c
    · exact aliveAt same (.inr m)
    · rw [(others d same).1]
      exact h.expiriesAlive d (expiriesSub m)
  case settlingDue =>
    intro d settling
    have apart : d ≠ c := fun same => notIn rfl (same ▸ settling)
    exact dueOthers apart (h.settlingDue d ((others d apart).1 ▸ settling))
  case settle_iff =>
    intro d
    by_cases same : d = c
    · subst same
      rw [settle]
      simpa using notIn (st := .settling) rfl
    · rw [(others d same).1, (others d same).2]
      exact h.settle_iff d
  case reading_iff =>
    intro d
    rw [readerWithout_eq]
    by_cases same : d = c
    · subst same; simpa using notIn rfl
    · rw [(others d same).1, h.reading_iff]
      simp [same]
  case withinLimit =>
    intro running
    have limit : t.warmLimit = s.warmLimit := by rw [State.warmLimit, run, State.warmLimit]
    have count := State.warmCount_update fun d apart => (others d apart).1
    have before := h.withinLimit (run ▸ running)
    rw [out, Bool.toNat_false] at count
    omega
  case dueRunning => exact fun n => List.sublist_nil.mp ((h.dueRunning (run ▸ n)) ▸ dueSub)
  case frameRunning =>
    intro n
    obtain ⟨expiries, coolDowns, sweep⟩ := h.frameRunning (run ▸ n)
    exact ⟨List.subset_nil.mp (expiries ▸ expiriesSub), frameRest.1.trans coolDowns, frameRest.2.trans sweep⟩
  case excitedRunning =>
    intro n d excited
    obtain ⟨apart, reading⟩ := stay (run ▸ n) d excited
    rw [(others d apart).1, reading]

/-- A chain goes COLD without leaving the due queue (R12, R13, R24). -/
theorem State.Warmth.chill {s : State} {reader : Option ChainNo} (h : s.Warmth reader) (c : ChainNo) :
    (s.chill c .cold).Warmth (readerWithout reader c) := by
  have self : (s.chill c .cold).chain c = (s.chain c).chilled .cold := by rw [State.chain_chill, if_pos rfl]
  refine h.cooled (c := c) rfl (.inl rfl) (.inl rfl) rfl (by rw [self]; rfl) (by rw [self]; rfl)
    (fun n => absurd (by rw [self]; rfl) n) fun d apart => ?_
  rw [State.chain_chill, if_neg apart]
  exact ⟨rfl, rfl⟩

/-- A COLD due chain is excited in RUNNING with room in the warm set (R9, R11). -/
theorem State.Warmth.excite {s : State} {reader : Option ChainNo} (h : s.Warmth reader) {c : ChainNo} (due : c ∈ s.due)
    (cold : (s.chain c).state = .cold) (room : s.warmCount < s.warmLimit) : (s.excite c).Warmth reader := by
  have running : s.run.state = .running := by
    by_contra n
    rw [h.dueRunning n] at due
    cases due
  have state (d : ChainNo) : ((s.excite c).chain d).state = if d = c then .settling else (s.chain d).state := by
    rw [State.chain_excite]
    split <;> rfl
  have settle (d : ChainNo) : ((s.excite c).chain d).settle.isSome = if d = c then true else (s.chain d).settle.isSome := by
    rw [State.chain_excite]
    split <;> rfl
  constructor
  case lruNodup => exact h.lruNodup
  case lru_iff =>
    intro d
    rw [State.excite_lru, h.lru_iff, state]
    by_cases same : d = c
    · simp [same, cold]
    · simp [same]
  case dueNodup => exact h.dueNodup
  case dueAlive =>
    intro d m
    rw [state]
    split
    · simp
    · exact h.dueAlive d m
  case expiriesAlive =>
    intro d m
    rw [state]
    split
    · simp
    · exact h.expiriesAlive d m
  case settlingDue =>
    intro d settling
    rw [state] at settling
    split at settling
    · rename_i same; rw [same]; exact due
    · exact h.settlingDue d settling
  case settle_iff =>
    intro d
    rw [settle, state]
    split
    · simp
    · exact h.settle_iff d
  case reading_iff =>
    intro d
    rw [state, ← h.reading_iff]
    split
    · rename_i same; simp [same, cold]
    · exact Iff.rfl
  case withinLimit =>
    intro _
    have count := State.warmCount_update (s := s) (t := s.excite c) (c := c)
      fun d apart => by rw [state, if_neg apart]
    have limit : (s.excite c).warmLimit = s.warmLimit := rfl
    rw [cold, state, if_pos rfl] at count
    simp only [ChainState.excited, Bool.toNat_false, Bool.toNat_true] at count
    omega
  case dueRunning => exact fun n => absurd running n
  case frameRunning => exact fun n => absurd running n
  case excitedRunning => exact fun n => absurd running n

/-- One grant (R9). -/
theorem State.Warmth.grantOne {s t : State} {reader : Option ChainNo} (h : s.Warmth reader)
    (granted : s.grantOne = some t) : t.Warmth reader := by
  unfold State.grantOne at granted
  cases earliest : s.dueCold with
  | none => simp [earliest] at granted
  | some c =>
    obtain ⟨due, cold⟩ := State.dueCold_spec earliest
    have running : s.run.state = .running := by
      by_contra n
      rw [h.dueRunning n] at due
      cases due
    simp only [earliest] at granted
    split at granted
    · rename_i room
      cases granted
      exact h.excite due cold room
    · cases least : s.victim with
      | none => simp [least] at granted
      | some v =>
        obtain ⟨-, warm, -, -⟩ := State.victim_spec least
        simp only [least] at granted
        cases granted
        have apart : c ≠ v := fun e => by rw [e, warm] at cold; cases cold
        have reader' : readerWithout reader v = reader := by
          unfold readerWithout
          split
          · rename_i reads
            have := (h.reading_iff v).mpr reads
            rw [warm] at this
            cases this
          · rfl
        have cooled := h.chill v
        rw [reader'] at cooled
        refine cooled.excite due (by rw [State.chain_chill, if_neg apart]; exact cold) ?_
        have count := State.warmCount_update (s := s) (t := s.chill v .cold) (c := v)
          fun d other => by rw [State.chain_chill, if_neg other]
        have limit : (s.chill v .cold).warmLimit = s.warmLimit := rfl
        have within := h.withinLimit running
        rw [warm, State.chain_chill, if_pos rfl, ChainRec.chilled_state] at count
        simp only [ChainState.excited, Bool.toNat_false, Bool.toNat_true] at count
        omega

theorem State.Warmth.grantLoop (n : Nat) {s : State} {reader : Option ChainNo} (h : s.Warmth reader) :
    (s.grantLoop n).Warmth reader := by
  induction n generalizing s with
  | zero => exact h
  | succ n ih =>
    unfold State.grantLoop
    split
    · exact h
    · rename_i t granted
      exact ih (h.grantOne granted)

theorem State.Warmth.grantTest {s : State} {reader : Option ChainNo} (h : s.Warmth reader) :
    s.grantTest.Warmth reader := h.grantLoop 16

/-- A chain becomes WARM at the most recent end of the LRU order: one that was SETTLING, or one handed back (R11, R15). -/
theorem State.Warmth.warmed {s t : State} {reader : Option ChainNo} (h : s.Warmth reader) {c : ChainNo}
    (excited : (s.chain c).state.excited = true) (notWarm : (s.chain c).state ≠ .warm) (running : s.run.state = .running)
    (lru : t.lru = s.lru ++ [c]) (due : t.due = s.due) (frame : t.frame = s.frame) (run : t.run = s.run)
    (warm : (t.chain c).state = .warm) (settle : (t.chain c).settle = none)
    (others : ∀ d, d ≠ c → t.chain d = s.chain d) : t.Warmth (readerWithout reader c) := by
  have running' : t.run.state = .running := run ▸ running
  constructor
  case lruNodup =>
    rw [lru, List.nodup_append]
    refine ⟨h.lruNodup, List.nodup_singleton c, fun a m b m' e => notWarm ((h.lru_iff c).mp ?_)⟩
    rw [List.mem_singleton] at m'
    rwa [← m', ← e]
  case lru_iff =>
    intro d
    rw [lru, List.mem_append, List.mem_singleton, h.lru_iff]
    by_cases same : d = c
    · subst same; simp [warm]
    · simp [same, others d same]
  case dueNodup => rw [due]; exact h.dueNodup
  case dueAlive =>
    intro d m
    by_cases same : d = c
    · subst same; simp [warm]
    · rw [others d same]; exact h.dueAlive d (due ▸ m)
  case expiriesAlive =>
    intro d m
    by_cases same : d = c
    · subst same; simp [warm]
    · rw [others d same]; exact h.expiriesAlive d (frame ▸ m)
  case settlingDue =>
    intro d settling
    have apart : d ≠ c := fun same => by rw [same, warm] at settling; cases settling
    rw [due]
    exact h.settlingDue d (others d apart ▸ settling)
  case settle_iff =>
    intro d
    by_cases same : d = c
    · subst same; simp [warm, settle]
    · rw [others d same]; exact h.settle_iff d
  case reading_iff =>
    intro d
    rw [readerWithout_eq]
    by_cases same : d = c
    · subst same; simp [warm]
    · rw [others d same, h.reading_iff]; simp [same]
  case withinLimit =>
    intro _
    have limit : t.warmLimit = s.warmLimit := by rw [State.warmLimit, run, State.warmLimit]
    have count := State.warmCount_update (s := s) (t := t) (c := c) fun d apart => by rw [others d apart]
    rw [excited, warm] at count
    have within := h.withinLimit running
    simp only [ChainState.excited, Bool.toNat_true] at count
    omega
  case dueRunning => exact fun n => absurd running' n
  case frameRunning => exact fun n => absurd running' n
  case excitedRunning => exact fun n => absurd running' n

/-- The read of a due WARM chain starts (R37). -/
theorem State.Warmth.startRead {s : State} (h : s.Warmth none) (g : Geometry) {c : ChainNo} (due : c ∈ s.due)
    (warm : (s.chain c).state = .warm) : (s.startRead g c).Warmth (some c) := by
  have running : s.run.state = .running := by
    by_contra n
    rw [h.dueRunning n] at due
    cases due
  have lru : (s.startRead g c).lru = s.lru.filter (· != c) := rfl
  have due' : (s.startRead g c).due = s.due.filter (· != c) := rfl
  have frame : (s.startRead g c).frame = s.frame := rfl
  have run : (s.startRead g c).run = s.run := rfl
  have settleNone : (s.chain c).settle.isSome = false := by
    rw [Bool.eq_false_iff, Ne, h.settle_iff, warm]
    exact ChainState.noConfusion
  have self : (s.startRead g c).chain c = { s.chain c with state := .reading } := by
    rw [State.chain_startRead, if_pos rfl]
  have others (d : ChainNo) (apart : d ≠ c) : (s.startRead g c).chain d = s.chain d := by
    rw [State.chain_startRead, if_neg apart]
  generalize s.startRead g c = t at lru due' frame run self others
  have running' : t.run.state = .running := run ▸ running
  constructor
  case lruNodup => rw [lru]; exact h.lruNodup.filter _
  case lru_iff =>
    intro d
    rw [lru, List.mem_filter, h.lru_iff]
    by_cases same : d = c
    · subst same; simp [self]
    · simp [same, others d same]
  case dueNodup => rw [due']; exact h.dueNodup.filter _
  case dueAlive =>
    intro d m
    rw [due', List.mem_filter] at m
    by_cases same : d = c
    · subst same; simp [self]
    · rw [others d same]; exact h.dueAlive d m.1
  case expiriesAlive =>
    intro d m
    by_cases same : d = c
    · subst same; simp [self]
    · rw [others d same]; exact h.expiriesAlive d (frame ▸ m)
  case settlingDue =>
    intro d settling
    have apart : d ≠ c := fun same => by rw [same, self] at settling; cases settling
    rw [due', List.mem_filter]
    exact ⟨h.settlingDue d (others d apart ▸ settling), by simpa using apart⟩
  case settle_iff =>
    intro d
    by_cases same : d = c
    · subst same; rw [self]; simp [settleNone]
    · rw [others d same]; exact h.settle_iff d
  case reading_iff =>
    intro d
    by_cases same : d = c
    · subst same; simp [self]
    · rw [others d same, h.reading_iff]; simp [Ne.symm same]
  case withinLimit =>
    intro _
    have limit : t.warmLimit = s.warmLimit := by rw [State.warmLimit, run, State.warmLimit]
    have count := State.warmCount_update (s := s) (t := t) (c := c) fun d apart => by rw [others d apart]
    rw [warm, self] at count
    have within := h.withinLimit running
    simp only [ChainState.excited, Bool.toNat_true] at count
    omega
  case dueRunning => exact fun n => absurd running' n
  case frameRunning => exact fun n => absurd running' n
  case excitedRunning => exact fun n => absurd running' n

end Sys2Proof.Machine
end

section
/-! SUPPORT. The excitation law event by event: joins, expiries, reconfiguration, park, loss, the hand-back, STOP, START and
the resets. -/

namespace Sys2Proof.Machine

open Sys2Proof

/-! ## What a list of checks that all pass says (R129) -/

/-- No check refuses. -/
theorem firstRefusal_eq_none {l : List (Option Answer)} : firstRefusal l = none ↔ ∀ a ∈ l, a = none := by
  induction l with
  | nil => simp [firstRefusal]
  | cons a l ih => cases a <;> simp [firstRefusal, ih]

/-- A check passes when its condition does not hold. -/
@[simp] theorem failWhen_eq_none {b : Bool} {a : Answer} : failWhen b a = none ↔ b = false := by
  cases b <;> simp [failWhen]

/-- A READ_CHAIN that passes its checks names a chain that is neither OFF nor LOST and carries no deferred marker. -/
theorem State.checkReadChain_passes {s : State} {r : Request} (passes : s.checkReadChain r = none) :
    (s.chain r.chain).state ≠ .off ∧ (s.chain r.chain).state ≠ .lost ∧ (s.chain r.chain).waiting.marked = false := by
  have all := firstRefusal_eq_none.mp passes
  refine ⟨?_, ?_, ?_⟩
  · simpa using all (failWhen ((s.chain r.chain).state == .off) (refusal .chainOff 0)) (by simp)
  · simpa using all (failWhen ((s.chain r.chain).state == .lost) (refusal .chainLost 0)) (by simp)
  · simpa using all (failWhen (s.chain r.chain).waiting.marked (refusal .conflict 0xFF)) (by simp)

/-! ## The law and work that leaves the warm set -/

theorem State.warmLaw_of_same {s t : State} (h : s.warmLaw) (same : s.SameWarmth t)
    (read : t.read.map ReadInProgress.chain = s.read.map ReadInProgress.chain) : t.warmLaw := by
  obtain ⟨warmth, stopped⟩ := State.warmLaw_iff.mp h
  refine State.warmLaw_iff.mpr ⟨read ▸ warmth.of_same same, fun idle => ?_⟩
  rw [stopped (same.run ▸ idle)] at read
  exact Option.map_eq_none_iff.mp read

/-- With the reader idle the law says what it says of the warm set. -/
theorem State.warmLaw_of_idleReader {s : State} (h : s.Warmth none) (read : s.read = none) : s.warmLaw :=
  State.warmLaw_iff.mpr ⟨by rw [read]; exact h, fun _ => read⟩

/-- In RUNNING and DRAINING the law says what it says of the warm set. -/
theorem State.warmLaw_of_running {s : State} (h : s.Warmth (s.read.map ReadInProgress.chain))
    (running : s.run.state = .running) : s.warmLaw :=
  State.warmLaw_iff.mpr ⟨h, fun n => by rw [running] at n; simp at n⟩

section
variable {s : State} {reader : Option ChainNo} (h : s.Warmth reader)
include h

/-- Chains are due in RUNNING alone. -/
theorem State.Warmth.running_of_due {c : ChainNo} (due : c ∈ s.due) : s.run.state = .running := by
  by_contra n
  rw [h.dueRunning n] at due
  cases due

/-- Period expiries are outstanding in RUNNING alone. -/
theorem State.Warmth.running_of_expiry {c : ChainNo} (m : c ∈ s.frame.expiries) : s.run.state = .running := by
  by_contra n
  rw [(h.frameRunning n).1] at m
  cases m

/-- A sweep is outstanding in RUNNING alone. -/
theorem State.Warmth.running_of_sweep {k : SlotNo} (m : k ∈ s.frame.sweep) : s.run.state = .running := by
  by_contra n
  rw [(h.frameRunning n).2.2] at m
  cases m

/-- A chain that is not READING leaves the reader where it is. -/
theorem State.Warmth.readerWithout_of_ne {c : ChainNo} (notReading : (s.chain c).state ≠ .reading) :
    readerWithout reader c = reader :=
  if_neg fun reads => notReading ((h.reading_iff c).mpr reads)

/-- Frame work that is not outstanding any more. -/
theorem State.Warmth.setFrame {w : FrameWork} (expiries : w.expiries ⊆ s.frame.expiries)
    (coolDowns : w.coolDowns ⊆ s.frame.coolDowns) (sweep : w.sweep ⊆ s.frame.sweep) :
    (s.setFrame w).Warmth reader := by
  refine { h with expiriesAlive := fun c m => h.expiriesAlive c (expiries m), frameRunning := fun n => ?_ }
  obtain ⟨e, c, l⟩ := h.frameRunning n
  rw [e] at expiries
  rw [c] at coolDowns
  rw [l] at sweep
  exact ⟨List.subset_nil.mp expiries, List.subset_nil.mp coolDowns, List.subset_nil.mp sweep⟩

/-- A live chain joins the due queue in RUNNING (R33). -/
theorem State.Warmth.joined {c : ChainNo} (fresh : c ∉ s.due) (running : s.run.state = .running)
    (alive : (s.chain c).state ≠ .off ∧ (s.chain c).state ≠ .lost) :
    State.Warmth { s with due := s.due ++ [c] } reader := by
  refine { h with dueNodup := ?_, dueAlive := fun d m => ?_, settlingDue := fun d settling => ?_, dueRunning := ?_ }
  · exact List.nodup_append.mpr ⟨h.dueNodup, List.nodup_singleton c, fun a m b m' e =>
      fresh (List.mem_singleton.mp m' ▸ e ▸ m)⟩
  · rcases List.mem_append.mp m with m | m
    · exact h.dueAlive d m
    · rw [List.mem_singleton.mp m]
      exact alive
  · exact List.mem_append_left _ (h.settlingDue d settling)
  · exact fun n => absurd running n

/-- With the run stopped before and after, and no frame work left, the law does not see which run state it is. -/
theorem State.Warmth.stopped {t : State} (before : s.run.state ≠ .running) (after : t.run.state ≠ .running)
    (lru : t.lru = s.lru) (due : t.due = s.due) (expiries : t.frame.expiries = []) (coolDowns : t.frame.coolDowns = [])
    (sweep : t.frame.sweep = []) (chains : t.chains = s.chains) : t.Warmth reader := by
  have chain (d : ChainNo) : t.chain d = s.chain d := by rw [State.chain, chains, State.chain]
  exact {
    lruNodup := by rw [lru]; exact h.lruNodup
    lru_iff := by simp only [lru, chain]; exact h.lru_iff
    dueNodup := by rw [due]; exact h.dueNodup
    dueAlive := by simp only [due, chain]; exact h.dueAlive
    expiriesAlive := by rw [expiries]; exact fun _ m => absurd m List.not_mem_nil
    settlingDue := by simp only [due, chain]; exact h.settlingDue
    settle_iff := by simp only [chain]; exact h.settle_iff
    reading_iff := by simp only [chain]; exact h.reading_iff
    withinLimit := fun running => absurd running after
    dueRunning := fun _ => due.trans (h.dueRunning before)
    frameRunning := fun _ => ⟨expiries, coolDowns, sweep⟩
    excitedRunning := by simp only [chain]; exact fun _ => h.excitedRunning before }

end

/-! ## Reconfiguration, park, loss -/

section
variable {s : State} {reader : Option ChainNo} (h : s.Warmth reader) (c : ChainNo)
include h

theorem State.Warmth.reconfigure (d : ChainDef) : (s.reconfigure c d).Warmth (readerWithout reader c) := by
  have self : (((((s.chill c .off).leaveDue c).modChain c fun r => r.reconfigured d).unprime c).cancelExpiry c).chain c =
      ((s.chain c).chilled .off).reconfigured d := by
    simp [State.chain_modChain, State.chain_chill]
  have installed : (((((s.chill c .off).leaveDue c).modChain c fun r => r.reconfigured d).unprime c).cancelExpiry
      c).Warmth (readerWithout reader c) := by
    refine h.cooled (c := c) rfl (.inr rfl) (.inr rfl) rfl ?_ ?_ (fun _ => ?_) fun e apart => ?_
    · rw [self]
      simp only [ChainRec.reconfigured]
      split <;> rfl
    · rw [self]; rfl
    · simp [State.cancelExpiry]
    · simp [State.chain_modChain, State.chain_chill, apart]
  unfold State.reconfigure
  dsimp only
  split
  · exact installed.grantTest
  · exact installed

theorem State.Warmth.park : (s.park c).Warmth (readerWithout reader c) := by
  have self : ((s.chill c .cold).leaveDue c).chain c = (s.chain c).chilled .cold := by
    simp [State.chain_chill]
  have parked : ((s.chill c .cold).leaveDue c).Warmth (readerWithout reader c) := by
    refine h.cooled (c := c) rfl (.inr rfl) (.inl rfl) rfl (by rw [self]; rfl) (by rw [self]; rfl)
      (fun n => absurd (by rw [self]; rfl) n) fun e apart => ?_
    simp [State.chain_chill, apart]
  unfold State.park
  dsimp only
  split
  · exact parked.grantTest
  · exact parked

theorem State.Warmth.enterLost : (s.enterLost c).Warmth (readerWithout reader c) := by
  have self : (s.enterLost c).chain c = { (s.chain c).chilled .lost with periodCounter := 0 } := by
    rw [State.chain_enterLost, if_pos rfl]
  refine h.cooled (c := c) rfl (.inr rfl) (.inr rfl) rfl (by rw [self]; rfl) (by rw [self]; rfl) (fun _ => ?_)
    fun e apart => ?_
  · simp [State.enterLost, State.cancelExpiry]
  · rw [State.chain_enterLost, if_neg apart]
    exact ⟨rfl, rfl⟩

end

/-! ## The reader's choice, joins and expiries -/

theorem State.warmLaw_readerChoice {s : State} (h : s.warmLaw) : s.readerChoice.warmLaw := by
  rcases s.readerChoice_changes with same | ⟨g, c, read, geometry, due, warm, starts⟩
  · rwa [same]
  · obtain ⟨warmth, -⟩ := State.warmLaw_iff.mp h
    have running := warmth.running_of_due due
    rw [read] at warmth
    rw [starts]
    exact State.warmLaw_of_running (warmth.startRead g due warm) running

theorem State.warmLaw_grantTest {s : State} (h : s.warmLaw) : s.grantTest.warmLaw := by
  obtain ⟨warmth, stopped⟩ := State.warmLaw_iff.mp h
  obtain ⟨⟨ch, l, granted, -⟩, -⟩ := s.grantTest_changes
  have read : s.grantTest.read = s.read := by rw [granted]
  have run : s.grantTest.run = s.run := by rw [granted]
  exact State.warmLaw_iff.mpr ⟨by rw [read]; exact warmth.grantTest, by rw [read, run]; exact stopped⟩

theorem State.warmLaw_joinDue {s : State} (h : s.warmLaw) {c : ChainNo} (running : s.run.state = .running)
    (alive : (s.chain c).state ≠ .off ∧ (s.chain c).state ≠ .lost) : (s.joinDue c).warmLaw := by
  unfold State.joinDue
  split
  · exact h
  · rename_i fresh
    have joined : State.warmLaw { s with due := s.due ++ [c] } :=
      State.warmLaw_of_running ((State.warmLaw_iff.mp h).1.joined (by simpa using fresh) running alive) running
    dsimp only
    split
    · exact State.warmLaw_grantTest joined
    · exact State.warmLaw_readerChoice joined
    all_goals exact joined

theorem State.warmLaw_setFrame {s : State} (h : s.warmLaw) {w : FrameWork} (expiries : w.expiries ⊆ s.frame.expiries)
    (coolDowns : w.coolDowns ⊆ s.frame.coolDowns) (sweep : w.sweep ⊆ s.frame.sweep) : (s.setFrame w).warmLaw := by
  obtain ⟨warmth, stopped⟩ := State.warmLaw_iff.mp h
  exact State.warmLaw_iff.mpr ⟨warmth.setFrame expiries coolDowns sweep, stopped⟩

theorem State.warmLaw_takeExpiry {s : State} (h : s.warmLaw) {c : ChainNo} {rest : List ChainNo}
    (next : s.frame.expiries = c :: rest) : (s.takeExpiry c rest).warmLaw := by
  obtain ⟨warmth, -⟩ := State.warmLaw_iff.mp h
  have m : c ∈ s.frame.expiries := next ▸ List.mem_cons_self
  have begun : (s.setFrame { s.frame with expiries := rest }).warmLaw :=
    State.warmLaw_setFrame h (next ▸ List.subset_cons_self c rest) (List.Subset.refl _) (List.Subset.refl _)
  unfold State.takeExpiry State.periodExpired
  split
  · exact State.warmLaw_of_same begun (State.modChain_sameWarmth _ c (fun _ => rfl) fun _ => rfl) rfl
  · exact State.warmLaw_joinDue begun (warmth.running_of_expiry m) (warmth.expiriesAlive c m)

theorem State.warmLaw_examine {s : State} (h : s.warmLaw) (c : ChainNo) : (s.examine c).warmLaw := by
  unfold State.examine
  split
  · rename_i cools
    split
    · exact State.warmLaw_of_same h (s.modChain_sameWarmth c (fun _ => rfl) fun _ => rfl) rfl
    · obtain ⟨warmth, stopped⟩ := State.warmLaw_iff.mp h
      have warm : (s.chain c).state = .warm := by
        simp only [State.coolable, Bool.and_eq_true, beq_iff_eq] at cools
        exact cools.1.1.1
      have chilled := warmth.chill c
      rw [warmth.readerWithout_of_ne (by rw [warm]; exact ChainState.noConfusion)] at chilled
      exact State.warmLaw_grantTest (State.warmLaw_iff.mpr ⟨chilled, stopped⟩)
  · exact h

theorem State.warmLaw_settled {s : State} (h : s.warmLaw) {c : ChainNo} (settling : (s.chain c).state = .settling) :
    (s.settled c).warmLaw := by
  obtain ⟨warmth, -⟩ := State.warmLaw_iff.mp h
  have running := warmth.running_of_due (warmth.settlingDue c settling)
  refine State.warmLaw_readerChoice (State.warmLaw_of_running ?_ running)
  have self : ∀ d, (s.modChain c fun r => { r with state := .warm, settle := none, idle := 0 }).chain d =
      if d = c then { s.chain c with state := .warm, settle := none, idle := 0 } else s.chain d :=
    fun d => State.chain_modChain s c d _
  refine (warmth.readerWithout_of_ne (c := c) (by rw [settling]; exact ChainState.noConfusion)) ▸
    warmth.warmed (c := c) (by rw [settling]; rfl) (by rw [settling]; exact ChainState.noConfusion) running rfl rfl
    rfl rfl ?_ ?_ fun d apart => ?_
  · exact congrArg ChainRec.state ((self c).trans (if_pos rfl))
  · exact congrArg ChainRec.settle ((self c).trans (if_pos rfl))
  · exact (self d).trans (if_neg apart)

/-! ## Takes -/

section
variable {s : State} (h : s.warmLaw) (k : SlotNo)
include h

theorem State.warmLaw_answer (a : Answer) : (s.answer k a).warmLaw := by
  refine State.warmLaw_of_same h (s.answer_sameWarmth k a) ?_
  obtain ⟨ch, answered⟩ := s.answer_changes k a
  rw [answered]

theorem State.warmLaw_deferOn (c : ChainNo) : (s.deferOn c k).warmLaw :=
  State.warmLaw_of_same h (s.modChain_sameWarmth c (fun _ => rfl) fun _ => rfl) rfl

theorem State.warmLaw_reconfigure {c : ChainNo} (notReading : (s.chain c).state ≠ .reading) (d : ChainDef) :
    (s.reconfigure c d).warmLaw := by
  obtain ⟨warmth, stopped⟩ := State.warmLaw_iff.mp h
  obtain ⟨ch, l, changed, -⟩ := s.reconfigure_changes c d
  have reconfigured := warmth.reconfigure c d
  rw [warmth.readerWithout_of_ne notReading] at reconfigured
  have read : (s.reconfigure c d).read = s.read := by rw [changed]
  have run : (s.reconfigure c d).run = s.run := by rw [changed]
  exact State.warmLaw_iff.mpr ⟨by rw [read]; exact reconfigured, by rw [read, run]; exact stopped⟩

theorem State.warmLaw_park {c : ChainNo} (notReading : (s.chain c).state ≠ .reading) : (s.park c).warmLaw := by
  obtain ⟨warmth, stopped⟩ := State.warmLaw_iff.mp h
  obtain ⟨ch, l, changed, -⟩ := s.park_changes c
  have parked := warmth.park c
  rw [warmth.readerWithout_of_ne notReading] at parked
  have read : (s.park c).read = s.read := by rw [changed]
  have run : (s.park c).run = s.run := by rw [changed]
  exact State.warmLaw_iff.mpr ⟨by rw [read]; exact parked, by rw [read, run]; exact stopped⟩

theorem State.warmLaw_recordPath {t : State} (path : s.recordPath t) : t.warmLaw := by
  refine State.warmLaw_of_same h (State.sameWarmth_of_recordPath path) ?_
  obtain ⟨_, _, _, _, rfl, -, -⟩ := path
  rfl

theorem State.warmLaw_takeSlot (running : s.run.state = .running) : (s.takeSlot k).warmLaw := by
  have begun : (s.beginTake k).warmLaw := h
  unfold State.takeSlot
  dsimp only
  generalize s.readRequest k = r
  cases kindOf r.kind with
  | none => exact State.warmLaw_answer begun k _
  | some kind =>
    cases kind with
    | setChain =>
      dsimp only [State.actSetChain]
      split
      · exact State.warmLaw_answer begun k _
      · split
        · exact State.warmLaw_deferOn begun k _
        · rename_i notReading
          exact State.warmLaw_answer (State.warmLaw_reconfigure begun notReading _) k _
    | readChain =>
      dsimp only [State.actReadChain]
      split
      · exact State.warmLaw_answer begun k _
      · rename_i passes
        obtain ⟨off, lost, -⟩ := State.checkReadChain_passes passes
        have pushed := State.modChain_sameWarmth (s.beginTake k) r.chain
          (f := fun c => { c with waiting := c.waiting.push k }) (fun _ => rfl) fun _ => rfl
        refine State.warmLaw_joinDue (State.warmLaw_of_same begun pushed rfl) running ?_
        rw [pushed.state]
        exact ⟨off, lost⟩
    | parkChain =>
      dsimp only [State.actParkChain]
      split
      · exact State.warmLaw_answer begun k _
      · split
        · exact State.warmLaw_deferOn begun k _
        · rename_i notReading
          exact State.warmLaw_answer (State.warmLaw_park begun notReading) k _
    | setGroup =>
      dsimp only [State.actSetGroup]
      split
      · exact State.warmLaw_answer begun k _
      · refine State.warmLaw_answer (State.warmLaw_of_same begun (State.define_sameWarmth _ r) ?_) k _
        unfold State.define
        dsimp only
        split <;> rfl
    | rearmGroup =>
      dsimp only [State.actRearm]
      split
      · exact State.warmLaw_answer begun k _
      · exact State.warmLaw_answer (s := (s.beginTake k).setGroup r.group _) begun k _
    | dropGroup =>
      dsimp only [State.actDrop]
      split
      · exact State.warmLaw_answer begun k _
      · exact State.warmLaw_answer (s := (s.beginTake k).setGroup r.group _) begun k _
    | flush =>
      dsimp only [State.actFlush]
      split
      · exact State.warmLaw_answer begun k _
      · exact State.warmLaw_answer (State.warmLaw_recordPath begun (State.closePage_path _ _)) k _

end

/-! ## Read completion -/

/-- Stages 1 to 4 leave the chain READING, or LOST and out of the warm set (R17, R18). -/
theorem State.Warmth.judgeRead {s : State} {rd : ReadInProgress} (h : s.Warmth (some rd.chain)) :
    (s.judgeRead rd).Warmth (some rd.chain) ∨
      ((s.judgeRead rd).Warmth none ∧ ((s.judgeRead rd).chain rd.chain).state = .lost) := by
  unfold State.judgeRead
  split
  · exact .inl (h.of_same ((s.recover_sameWarmth rd.chain).trans (State.filterRead_sameWarmth _ rd)))
  · have counted := s.modChain_sameWarmth rd.chain
      (f := fun r => { r with faultRun := (s.chain rd.chain).faultRun + 1 }) (fun _ => rfl) fun _ => rfl
    unfold State.badRead
    dsimp only
    split
    · have lost := (h.of_same (counted.trans (State.generate_sameWarmth _
        (chainRecord .chainLost rd.chain (s.chain rd.chain).defn.faultLimit s.run.stamp)))).enterLost rd.chain
      rw [show readerWithout (some rd.chain) rd.chain = none from if_pos rfl] at lost
      exact .inr ⟨lost, by rw [State.chain_enterLost, if_pos rfl]; rfl⟩
    · split
      · exact .inl (h.of_same (counted.trans (State.generate_sameWarmth _ _)))
      · exact .inl (h.of_same counted)

/-- The hand-back leaves no chain READING (R15). -/
theorem State.Warmth.handBack {s : State} {c : ChainNo} (run : s.run.state = .running ∨ s.run.state = .draining)
    (h : s.Warmth (some c) ∨ (s.Warmth none ∧ (s.chain c).state = .lost)) : (s.handBack c).Warmth none := by
  obtain ⟨reader, warmth, gone, lost⟩ : ∃ reader, s.Warmth reader ∧ readerWithout reader c = none ∧
      ((s.chain c).state = .lost ∧ reader = none ∨ (s.chain c).state = .reading) := by
    rcases h with reads | ⟨warmth, lost⟩
    · exact ⟨some c, reads, if_pos rfl, .inr ((reads.reading_iff c).mpr rfl)⟩
    · exact ⟨none, warmth, by simp [readerWithout], .inl ⟨lost, rfl⟩⟩
  have plain : (s.handBackPlain c).Warmth none := by
    unfold State.handBackPlain
    split
    · rename_i isLost
      rcases lost with ⟨-, none⟩ | reading
      · exact none ▸ warmth
      · rw [isLost] at reading
        cases reading
    · rename_i notLost
      have reading : (s.chain c).state = .reading := lost.resolve_left fun l => notLost l.1
      split
      · exact gone ▸ warmth.chill c
      · rename_i notDraining
        have noTimer : (s.chain c).settle = none := by
          rw [← Option.not_isSome_iff_eq_none, warmth.settle_iff, reading]
          exact ChainState.noConfusion
        have chain (d : ChainNo) : (s.backToWarm c).chain d =
            if d = c then { s.chain c with state := .warm, idle := 0 } else s.chain d :=
          State.chain_modChain s c d fun r => { r with state := .warm, idle := 0 }
        rw [← gone]
        refine warmth.warmed (c := c) (by rw [reading]; rfl) (by rw [reading]; exact ChainState.noConfusion)
          (run.resolve_right notDraining) rfl rfl rfl rfl ?_ ?_ fun d apart => by rw [chain, if_neg apart]
        · rw [chain, if_pos rfl]
        · rw [chain, if_pos rfl]
          exact noTimer
  unfold State.handBack
  split
  · exact plain.grantTest
  · rename_i k _
    split
    · rename_i r _
      refine State.Warmth.grantTest ?_
      unfold State.handBackDeferred
      split
      · exact (gone ▸ warmth.reconfigure c r.chainDef).of_same (State.answer_sameWarmth _ k _)
      · split
        · rename_i isLost
          rcases lost with ⟨-, none⟩ | reading
          · exact (none ▸ warmth).of_same (s.answer_sameWarmth k _)
          · rw [isLost] at reading
            cases reading
        · exact (gone ▸ warmth.park c).of_same (State.answer_sameWarmth _ k _)
    · exact plain.grantTest

theorem State.Warmth.finishRead {s : State} {rd : ReadInProgress} (h : s.Warmth (some rd.chain))
    (run : s.run.state = .running ∨ s.run.state = .draining) : (s.finishRead rd).Warmth none := by
  have counted : (s.countRead rd.chain).Warmth (some rd.chain) :=
    h.of_same (s.modChain_sameWarmth rd.chain (fun _ => rfl) fun _ => rfl)
  have judgedRun : ((s.countRead rd.chain).judgeRead rd).run = s.run := (State.judgeRead_works _ rd).run
  have handed := State.Warmth.handBack (by rw [judgedRun]; exact run) counted.judgeRead
  have answered := handed.of_same (State.answerReads_sameWarmth _ rd ((s.countRead rd.chain).readGood rd)
    ((s.countRead rd.chain).judgeRead rd))
  exact { answered with }

/-- The drain-end test. -/
theorem State.warmLaw_drainTest {s : State} (h : s.warmLaw) : s.drainTest.warmLaw := by
  unfold State.drainTest
  split
  · rename_i ends
    simp only [Bool.and_eq_true, decide_eq_true_eq, Option.isNone_iff_eq_none] at ends
    obtain ⟨⟨draining, read⟩, -⟩ := ends
    obtain ⟨warmth, -⟩ := State.warmLaw_iff.mp h
    have path := State.recordPath_trans s.finishPageWork_path (State.closePage_path s.finishPageWork .stop)
    obtain ⟨r, w, p, f, closed, -, -⟩ := path
    have ended : s.finishPageWork.drainEnd = { s with
        run := { s.run with state := .idle, frameTimer := none }, frame := FrameWork.empty, records := r, window := w
        pages := p, alerts := { s.alerts with flags := f ||| Flag.mask .stopped } } := by
      unfold State.drainEnd
      rw [closed]
      rfl
    rw [ended]
    rw [read] at warmth
    exact State.warmLaw_of_idleReader (warmth.stopped (by rw [draining]; exact RunState.noConfusion)
      RunState.noConfusion rfl rfl rfl rfl rfl rfl) read
  · exact h

theorem State.warmLaw_completion {s : State} (h : s.warmLaw) {rd : ReadInProgress} (reading : s.read = some rd) :
    (s.finishRead rd).readerChoice.drainTest.warmLaw := by
  obtain ⟨warmth, stopped⟩ := State.warmLaw_iff.mp h
  rw [reading] at warmth stopped
  have run : s.run.state = .running ∨ s.run.state = .draining := by
    cases state : s.run.state with
    | running => exact .inl rfl
    | draining => exact .inr rfl
    | idle => cases stopped (.inl state)
    | init => cases stopped (.inr state)
  exact State.warmLaw_drainTest (State.warmLaw_readerChoice (State.warmLaw_of_idleReader (warmth.finishRead run) rfl))

/-! ## Runs that start, stop and are reset -/

theorem State.chain_acceptStart_state (s : State) (c : ChainNo) : (s.acceptStart.chain c).state = (s.chain c).state ∧
    (s.acceptStart.chain c).settle = (s.chain c).settle := by
  simp [State.chain, State.acceptStart, ChainRec.started]

theorem State.warmLaw_acceptStart {s : State} (h : s.warmLaw) (idle : s.run.state = .idle) :
    s.acceptStart.warmLaw := by
  obtain ⟨warmth, stopped⟩ := State.warmLaw_iff.mp h
  rw [stopped (.inl idle)] at warmth
  have calm (c : ChainNo) : (s.chain c).state.excited = false := by
    rw [Bool.eq_false_iff]
    intro excited
    have reading := warmth.excitedRunning (by rw [idle]; exact RunState.noConfusion) c excited
    cases (warmth.reading_iff c).mp reading
  have notExcited {cs : ChainState} (excited : cs.excited = true) (c : ChainNo) : (s.chain c).state ≠ cs := by
    intro e
    rw [← e, calm c] at excited
    cases excited
  have lru : s.acceptStart.lru = [] := rfl
  have due : s.acceptStart.due = [] := rfl
  have frame : s.acceptStart.frame = FrameWork.empty := rfl
  have count : s.acceptStart.warmCount = 0 := by
    rw [State.warmCount, List.countP_eq_zero]
    intro c _
    rw [(s.chain_acceptStart_state c).1, calm]
    exact Bool.false_ne_true
  refine State.warmLaw_of_idleReader ?_ rfl
  constructor <;> simp only [State.chain_acceptStart_state, lru, due, frame, count, FrameWork.empty]
  case lru_iff => exact fun c => ⟨fun m => absurd m List.not_mem_nil, fun warm => absurd warm (notExcited rfl c)⟩
  case settlingDue => exact fun c settling => absurd settling (notExcited rfl c)
  case settle_iff => exact warmth.settle_iff
  case reading_iff => exact warmth.reading_iff
  case excitedRunning => exact fun _ c excited => absurd excited (by rw [calm c]; exact Bool.false_ne_true)
  all_goals simp

theorem ChainRec.drained_state (r : ChainRec) :
    r.drained.state = if r.state = .settling ∨ r.state = .warm then .cold else r.state := by
  simp only [ChainRec.drained, Bool.or_eq_true, decide_eq_true_eq]
  split <;> rfl

theorem ChainRec.drained_settle (r : ChainRec) :
    r.drained.settle = if r.state = .settling ∨ r.state = .warm then none else r.settle := by
  simp only [ChainRec.drained, Bool.or_eq_true, decide_eq_true_eq]
  split <;> rfl

/-- The entry into DRAINING before its answers: SETTLING and WARM chains COLD, no chain due, no frame work (R24, R158). -/
def State.halt (s : State) : State :=
  { s with run := { s.run with state := .draining }, frame := FrameWork.empty
           chains := Vector.ofFn fun i => s.chains[i].drained, lru := [], due := [] }

theorem State.enterDraining_eq (s : State) : s.enterDraining =
    s.halt.answerAll (s.takenAscending.filter fun k => !s.belongsToRead k) (Answer.plain .stopped) := rfl

theorem State.chain_halt (s : State) (d : ChainNo) : s.halt.chain d = (s.chain d).drained := by
  simp [State.chain, State.halt]

theorem State.answerAll_read (s : State) (ks : List SlotNo) (a : Answer) : (s.answerAll ks a).read = s.read := by
  obtain ⟨_, _, _, _, answered⟩ := s.answerAll_changes ks a
  rw [answered]

theorem State.warmLaw_halt {s : State} (h : s.warmLaw) : s.halt.warmLaw := by
  obtain ⟨warmth, -⟩ := State.warmLaw_iff.mp h
  have lru : s.halt.lru = [] := rfl
  have due : s.halt.due = [] := rfl
  have frame : s.halt.frame = FrameWork.empty := rfl
  have state (d : ChainNo) : (s.halt.chain d).state =
      if (s.chain d).state = .settling ∨ (s.chain d).state = .warm then .cold else (s.chain d).state := by
    rw [State.chain_halt, ChainRec.drained_state]
  have settle (d : ChainNo) : (s.halt.chain d).settle =
      if (s.chain d).state = .settling ∨ (s.chain d).state = .warm then none else (s.chain d).settle := by
    rw [State.chain_halt, ChainRec.drained_settle]
  refine State.warmLaw_iff.mpr ⟨{
    lruNodup := List.nodup_nil
    dueNodup := List.nodup_nil
    dueAlive := fun _ m => absurd m List.not_mem_nil
    expiriesAlive := fun _ m => absurd m List.not_mem_nil
    withinLimit := fun running => nomatch running
    dueRunning := fun _ => rfl
    frameRunning := fun _ => ⟨rfl, rfl, rfl⟩
    lru_iff := fun c => ?_, settlingDue := fun c => ?_, settle_iff := fun c => ?_, reading_iff := fun c => ?_
    excitedRunning := fun _ c => ?_ }, fun stopped => by rcases stopped with n | n <;> cases n⟩
  · rw [state, lru]
    split <;> simp_all
  · rw [state]
    split <;> simp_all
  · rw [state, settle]
    split
    · simp
    · exact warmth.settle_iff c
  · rw [state, show s.halt.read = s.read from rfl, ← warmth.reading_iff]
    split
    · rename_i out
      rcases out with out | out <;> simp [out]
    · exact Iff.rfl
  · rw [state]
    split
    · exact fun excited => nomatch excited
    · rename_i out
      cases cs : (s.chain c).state <;> simp_all [ChainState.excited]

theorem State.warmLaw_enterDraining {s : State} (h : s.warmLaw) : s.enterDraining.warmLaw :=
  State.warmLaw_of_same (State.warmLaw_halt h) (State.answerAll_sameWarmth _ _ _)
    (by rw [s.enterDraining_eq, State.answerAll_read])

/-- A read abandoned leaves no chain READING (R16). -/
theorem State.Warmth.abandonRead {s : State} (h : s.Warmth (s.read.map ReadInProgress.chain)) (a : Answer) :
    (s.abandonRead a).Warmth none ∧ (s.abandonRead a).read = none := by
  unfold State.abandonRead
  split
  · rename_i idle
    rw [idle] at h
    exact ⟨h, idle⟩
  · rename_i rd reading
    rw [reading] at h
    have chilled := h.chill rd.chain
    rw [show readerWithout (Option.map ReadInProgress.chain (some rd)) rd.chain = none from if_pos rfl] at chilled
    obtain ⟨_, _, _, _, answered⟩ := ({ s.chill rd.chain .cold with read := none } : State).answerAll_changes
      (s.chain rd.chain).waiting.slots a
    refine ⟨State.Warmth.of_same (s := { s.chill rd.chain .cold with read := none }) { chilled with }
      (State.answerAll_sameWarmth _ _ _), ?_⟩
    rw [answered]

theorem State.warmLaw_secondStop {s : State} (h : s.warmLaw) (draining : s.run.state = .draining) :
    s.secondStop.warmLaw := by
  obtain ⟨warmth, read⟩ := (State.warmLaw_iff.mp h).1.abandonRead (Answer.plain .stopped)
  obtain ⟨r, w, p, f, closed, -, -⟩ := (s.abandonRead (Answer.plain .stopped)).discardQueue.closePage_path .stop
  have run : (s.abandonRead (Answer.plain .stopped)).run.state ≠ .running := by
    rw [(s.abandonRead_works _).run, draining]
    exact RunState.noConfusion
  have ended : s.secondStop = { s.abandonRead (Answer.plain .stopped) with
      run := { (s.abandonRead (Answer.plain .stopped)).run with state := .idle, frameTimer := none }
      frame := FrameWork.empty, records := r, window := w, pages := p
      alerts := { (s.abandonRead (Answer.plain .stopped)).alerts with flags := f ||| Flag.mask .stopped } } := by
    unfold State.secondStop State.drainEnd
    rw [closed]
    rfl
  rw [ended]
  exact State.warmLaw_of_idleReader (warmth.stopped run RunState.noConfusion rfl rfl rfl rfl rfl rfl) read

theorem ChainRec.decremented_state (r : ChainRec) : r.decremented.state = r.state := by
  unfold ChainRec.decremented
  split <;> rfl

theorem ChainRec.decremented_settle (r : ChainRec) : r.decremented.settle = r.settle := by
  unfold ChainRec.decremented
  split <;> rfl

/-- A chain whose period expires is neither OFF nor LOST (R29). -/
theorem ChainRec.alive_of_expires {r : ChainRec} (h : r.expires = true) : r.state ≠ .off ∧ r.state ≠ .lost := by
  simp only [ChainRec.expires, ChainRec.counting, Bool.and_eq_true, Bool.or_eq_true, beq_iff_eq] at h
  rcases h.1.2 with ((state | state) | state) | state <;> simp [state]

theorem State.warmLaw_openRunning {s : State} (h : s.warmLaw) (running : s.run.state = .running) :
    s.openRunningFrame.warmLaw := by
  obtain ⟨warmth, -⟩ := State.warmLaw_iff.mp h
  have state (d : ChainNo) : (s.openRunningFrame.chain d).state = (s.chain d).state := by
    rw [State.chain_openRunningFrame, ChainRec.decremented_state]
  have settle (d : ChainNo) : (s.openRunningFrame.chain d).settle = (s.chain d).settle := by
    rw [State.chain_openRunningFrame, ChainRec.decremented_settle]
  have count : s.openRunningFrame.warmCount = s.warmCount := by simp only [State.warmCount, state]
  exact State.warmLaw_of_running { warmth with
    lru_iff := fun c => by rw [state]; exact warmth.lru_iff c
    dueAlive := fun c m => by rw [state]; exact warmth.dueAlive c m
    expiriesAlive := fun c m => by rw [state]; exact ChainRec.alive_of_expires (List.mem_filter.mp m).2
    settlingDue := fun c => by rw [state]; exact warmth.settlingDue c
    settle_iff := fun c => by rw [state, settle]; exact warmth.settle_iff c
    reading_iff := fun c => by rw [state]; exact warmth.reading_iff c
    withinLimit := fun r => by rw [count]; exact warmth.withinLimit r
    frameRunning := fun n => absurd running n
    excitedRunning := fun n => absurd running n } running

theorem State.tick_sameWarmth (s : State) : s.SameWarmth s.tick ∧
    s.tick.read.map ReadInProgress.chain = s.read.map ReadInProgress.chain := by
  obtain ⟨n, q, ticked⟩ := s.tick_changes
  rw [ticked]
  refine ⟨⟨rfl, rfl, rfl, rfl, rfl, fun d => ?_, fun d => ?_⟩, ?_⟩
  · simp [State.chain, State.countTimers]
  · simp [State.chain, State.countTimers, counted]
  · rw [show State.read { s.countTimers with fresh := n, pending := q } = s.read.map ReadInProgress.ticked from rfl,
      Option.map_map]
    rfl

/-! ## Every event -/

/-- Events that touch neither chains nor queues nor frame work nor the reader. -/
theorem State.warmLaw_of_fields {s t : State} (h : s.warmLaw) (lru : t.lru = s.lru) (due : t.due = s.due)
    (frame : t.frame = s.frame) (run : t.run.state = s.run.state) (geometry : t.run.geometry = s.run.geometry)
    (chains : t.chains = s.chains) (read : t.read = s.read) : t.warmLaw :=
  State.warmLaw_of_same h ⟨lru, due, frame, run, geometry, fun d => by rw [State.chain, chains, State.chain],
    fun d => by rw [State.chain, chains, State.chain]⟩ (by rw [read])

theorem State.Event.warmLaw {s t : State} (e : s.Event t) (init : s.initLaw) (h : s.warmLaw) : t.warmLaw := by
  obtain ⟨atReset, low⟩ := State.initLaw_iff.mp init
  have fromReset {t : State} (r : s.AtReset) (chains : t.chains = s.chains) (lru : t.lru = s.lru)
      (due : t.due = s.due) (frame : t.frame = s.frame) (read : t.read = s.read) : t.warmLaw :=
    State.warmLaw_of_idleReader (State.warmth_of_cleared (chains.trans r.chains) (lru.trans r.lru) (due.trans r.due)
      (frame.trans r.frame)) (read.trans r.read)
  cases e with
  | hardReset | softReset => exact State.warmLaw_of_idleReader (State.warmth_of_cleared rfl rfl rfl rfl) rfl
  | nresetRise k isLow => exact fromReset (atReset (low isLow).1) rfl rfl rfl rfl rfl
  | initEnd isInit => exact fromReset (atReset isInit) rfl rfl rfl rfl rfl
  | hostByte a b =>
    unfold State.hostByte
    split
    · exact h
    · exact h
  | acceptStart idle => exact State.warmLaw_acceptStart h idle
  | enterDraining => exact State.warmLaw_enterDraining h
  | secondStop draining => exact State.warmLaw_secondStop h draining
  | openRunning running => exact State.warmLaw_openRunning h running
  | openDraining draining =>
    obtain ⟨warmth, -⟩ := State.warmLaw_iff.mp h
    have state : s.openDrainingFrame.run.state = .draining := draining
    refine State.warmLaw_iff.mpr ⟨warmth.stopped (by rw [draining]; exact RunState.noConfusion)
      (by rw [state]; exact RunState.noConfusion) rfl rfl rfl rfl rfl rfl, ?_⟩
    rw [state]
    simp
  | takeExpiry next => exact State.warmLaw_takeExpiry h next
  | dropCoolDowns fewer => exact State.warmLaw_setFrame h (List.Subset.refl _) fewer (List.Subset.refl _)
  | examine c => exact State.warmLaw_examine h c
  | pageWriterWork =>
    have begun : (s.setFrame { s.frame with pageWork := false }).warmLaw :=
      State.warmLaw_setFrame h (List.Subset.refl _) (List.Subset.refl _) (List.Subset.refl _)
    exact State.warmLaw_recordPath begun s.pageWriterWork_path
  | drainTest => exact State.warmLaw_drainTest h
  | passSweep fewer => exact State.warmLaw_setFrame h (List.Subset.refl _) (List.Subset.refl _) fewer.subset
  | @take k rest visits =>
    have running := (State.warmLaw_iff.mp h).1.running_of_sweep (k := k) (visits ▸ List.mem_cons_self)
    have swept : (s.setSweep rest).warmLaw := State.warmLaw_setFrame h (List.Subset.refl _) (List.Subset.refl _)
      (by rw [visits]; exact List.subset_cons_self k rest)
    exact State.warmLaw_takeSlot swept k running
  | staleCompletion c => exact State.warmLaw_of_same h (s.modChain_sameWarmth c (fun _ => rfl) fun _ => rfl) rfl
  | settled settling => exact State.warmLaw_settled h settling
  | grant granted =>
    obtain ⟨warmth, stopped⟩ := State.warmLaw_iff.mp h
    have warmth' := warmth.grantOne granted
    obtain ⟨⟨ch, l, rfl, -⟩, -⟩ := State.grantOne_changes granted
    exact State.warmLaw_iff.mpr ⟨warmth', stopped⟩
  | readerChoice => exact State.warmLaw_readerChoice h
  | @bit rd inputs reading =>
    refine State.warmLaw_of_same h ⟨rfl, rfl, rfl, rfl, rfl, fun _ => rfl, fun _ => rfl⟩ ?_
    rw [reading, Option.map_some, Option.map_some, rd.bit_chain]
  | completion reading => exact State.warmLaw_completion h reading
  | overrunRecord =>
    obtain ⟨r, placed⟩ := s.placeOverrun_changes
    rw [placed]
    exact State.warmLaw_recordPath (s := { s with records := r }) h (State.pump_path _)
  | tick =>
    obtain ⟨same, read⟩ := s.tick_sameWarmth
    exact State.warmLaw_of_same h same read
  | outside | clearFlags | setEnables | refuseStart => exact State.warmLaw_of_fields h rfl rfl rfl rfl rfl rfl rfl

/-- Settles O57: the warm set, the LRU order, the due queue and the reader move together in every event. -/
theorem stepKeepsWarmSetLaw : Obligations.StepKeepsWarmSetLaw := fun _ _ hinit hwarm =>
  step_keeps (H := State.initLaw) (fun _ _ e => e.initLaw) (fun _ _ e hi hw => e.warmLaw hi hw) hinit hwarm

/-! ## The image law, which needs it -/

theorem State.warmLaw_reading {s : State} (h : s.warmLaw) {rd : ReadInProgress} (reading : rd ∈ s.read) :
    (s.chain rd.chain).state = .reading := by
  obtain ⟨warmth, -⟩ := State.warmLaw_iff.mp h
  rw [warmth.reading_iff, show s.read = some rd from reading]
  rfl

theorem State.Event.imageLaw {s t : State} (e : s.Event t) (warm : s.warmLaw) (h : s.imageLaw) : t.imageLaw :=
  State.imageLaw_iff.mpr ⟨e.imagesFit h,
    e.readFits (State.imageLaw_iff.mp h).2 fun _ reading => State.warmLaw_reading warm reading⟩

/-- Settles O60: no chain whose read is in progress is reconfigured (R21), so the read keeps its chain's length. -/
theorem stepKeepsImageLaw : Obligations.StepKeepsImageLaw := fun _ _ init warm h =>
  step_keeps (H := fun s => s.initLaw ∧ s.warmLaw) (fun _ _ e both => ⟨e.initLaw both.1, e.warmLaw both.1 both.2⟩)
    (fun _ _ e both h => e.imageLaw both.2 h) ⟨init, warm⟩ h

end Sys2Proof.Machine
end

section
/-! SUPPORT. The taken set, the chains' lists and the slots' owner codes (R111, R121): what an answer, a take and every
other piece of work does to them. -/

namespace Sys2Proof.Machine

open Sys2Proof

/-! ## Work that leaves lists and taken set -/

/-- The chain of a read and the slots attached to it. -/
def ReadInProgress.view (rd : ReadInProgress) : ChainNo × List SlotNo := (rd.chain, rd.attached)

/-- `t` has the taken set, the chains' lists and the slots' bytes of `s`; its read is that of `s`, or starts with the
slots on its chain's list attached (R37). -/
structure State.SameLists (s t : State) : Prop where
  taken : t.requests.taken = s.requests.taken
  waiting : ∀ d, (t.chain d).waiting = (s.chain d).waiting
  window : s.window.keepsBoard t.window
  reads : t.read.map ReadInProgress.view = s.read.map ReadInProgress.view ∨
    (s.read = none ∧ ∀ rd ∈ t.read, rd.attached = (s.chain rd.chain).waiting.slots)
  run : t.run.state = s.run.state
  geometry : t.run.geometry = s.run.geometry
  sweep : s.run.state ≠ .running → s.frame.sweep = [] → t.frame.sweep = []

theorem State.SameLists.refl (s : State) : s.SameLists s :=
  ⟨rfl, fun _ => rfl, Memory.keepsBoard_refl _, .inl rfl, rfl, rfl, fun _ h => h⟩

theorem State.SameLists.trans {s t u : State} (h : s.SameLists t) (k : t.SameLists u) : s.SameLists u := by
  refine ⟨k.taken.trans h.taken, fun d => (k.waiting d).trans (h.waiting d), Memory.keepsBoard_trans h.window k.window, ?_,
    k.run.trans h.run, k.geometry.trans h.geometry, fun n e => k.sweep (by rwa [h.run]) (h.sweep n e)⟩
  rcases h.reads with same | ⟨idle, starts⟩ <;> rcases k.reads with same' | ⟨idle', starts'⟩
  · exact .inl (same'.trans same)
  · refine .inr ⟨?_, fun rd reading => by rw [starts' rd reading, h.waiting]⟩
    rw [idle', Option.map_none, eq_comm, Option.map_eq_none_iff] at same
    exact same
  · refine .inr ⟨idle, fun rd reading => ?_⟩
    have viewed : u.read.map ReadInProgress.view = some rd.view := by rw [show u.read = some rd from reading, Option.map_some]
    rw [same', Option.map_eq_some_iff] at viewed
    obtain ⟨rd', reading', e⟩ := viewed
    obtain ⟨chain, attached⟩ := Prod.mk.inj e
    rw [← attached, starts rd' reading', chain]
  · exact .inr ⟨idle, fun rd reading => by rw [starts' rd reading, h.waiting]⟩

/-- Where the window, the read, the run state and the sweep stand, the lists and the taken set are all there is to show. -/
theorem State.SameLists.of_waiting {s t : State} (taken : t.requests.taken = s.requests.taken)
    (waiting : ∀ d, (t.chain d).waiting = (s.chain d).waiting) (window : t.window = s.window) (read : t.read = s.read)
    (run : t.run.state = s.run.state) (geometry : t.run.geometry = s.run.geometry)
    (sweep : t.frame.sweep = s.frame.sweep) : s.SameLists t :=
  ⟨taken, waiting, by rw [window]; exact Memory.keepsBoard_refl _, .inl (by rw [read]), run, geometry,
    fun _ e => sweep.trans e⟩

/-- Where chains stand too, the taken set is. -/
theorem State.SameLists.of_chains {s t : State} (taken : t.requests.taken = s.requests.taken) (chains : t.chains = s.chains)
    (window : t.window = s.window) (read : t.read = s.read) (run : t.run.state = s.run.state)
    (geometry : t.run.geometry = s.run.geometry) (sweep : t.frame.sweep = s.frame.sweep) : s.SameLists t :=
  .of_waiting taken (fun d => by rw [State.chain, chains, State.chain]) window read run geometry sweep

section
variable (s : State)

theorem State.modChain_sameLists (c : ChainNo) {f : ChainRec → ChainRec} (h : ∀ r, (f r).waiting = r.waiting) :
    s.SameLists (s.modChain c f) := by
  refine .of_waiting rfl (fun d => ?_) rfl rfl rfl rfl rfl
  rw [State.chain_modChain]
  split
  · rename_i same; rw [h, same]
  · rfl

theorem State.setGroup_sameLists (n : GroupNo) (g : GroupRec) : s.SameLists (s.setGroup n g) :=
  .of_chains rfl rfl rfl rfl rfl rfl rfl

theorem State.chill_sameLists (c : ChainNo) (cs : ChainState) : s.SameLists (s.chill c cs) := by
  refine .of_waiting rfl (fun d => ?_) rfl rfl rfl rfl rfl
  rw [State.chain_chill]
  split
  · rename_i same; rw [ChainRec.chilled_waiting, same]
  · rfl

theorem State.sameLists_of_recordPath {s t : State} (path : s.recordPath t) : s.SameLists t := by
  obtain ⟨_, _, _, _, rfl, keeps, -⟩ := path
  exact ⟨rfl, fun _ => rfl, keeps, .inl rfl, rfl, rfl, fun _ h => h⟩

theorem State.generate_sameLists (r : Record) : s.SameLists (s.generate r) := by
  obtain ⟨_, _, _, _, h, keeps⟩ := s.generate_changes r
  rw [h]
  exact ⟨rfl, fun _ => rfl, keeps, .inl rfl, rfl, rfl, fun _ h => h⟩

theorem State.sameLists_of_granted {s t : State} (h : s.granted t) : s.SameLists t := by
  obtain ⟨⟨_, _, frame, -⟩, makes⟩ := h
  refine .of_waiting (by rw [frame]) (fun d => ?_) (by rw [frame]) (by rw [frame]) (by rw [frame]) (by rw [frame])
    (by rw [frame])
  rcases makes d with h | ⟨-, -, h⟩ | ⟨-, -, -, h⟩ <;> rw [h]
  rfl

theorem State.grantTest_sameLists : s.SameLists s.grantTest := State.sameLists_of_granted s.grantTest_changes

theorem State.readerChoice_sameLists : s.SameLists s.readerChoice := by
  rcases s.readerChoice_changes with h | ⟨g, c, idle, -, -, -, h⟩
  · rw [h]; exact .refl s
  · rw [h]
    refine ⟨rfl, fun d => by rw [State.chain_startRead_kept], Memory.keepsBoard_refl _, .inr ⟨idle, fun rd reading => ?_⟩,
      rfl, rfl, fun _ h => h⟩
    cases reading
    rfl

theorem State.joinDue_sameLists (c : ChainNo) : s.SameLists (s.joinDue c) := by
  have joined : s.SameLists { s with due := s.due ++ [c] } := .of_chains rfl rfl rfl rfl rfl rfl rfl
  unfold State.joinDue
  split
  · exact .refl s
  · dsimp only
    split
    · exact joined.trans (State.grantTest_sameLists _)
    · exact joined.trans (State.readerChoice_sameLists _)
    all_goals exact joined

theorem State.reconfigure_sameLists (c : ChainNo) (d : ChainDef) : s.SameLists (s.reconfigure c d) := by
  obtain ⟨_, _, h, -⟩ := s.reconfigure_changes c d
  refine .of_waiting (by rw [h]) (fun e => ?_) (by rw [h]) (by rw [h]) (by rw [h]) (by rw [h]) (by rw [h])
  by_cases same : e = c
  · rw [same, State.chain_reconfigure_self]; rfl
  · rw [State.chain_reconfigure_other s d same]

theorem State.park_sameLists (c : ChainNo) : s.SameLists (s.park c) := by
  obtain ⟨_, _, h, -⟩ := s.park_changes c
  refine .of_waiting (by rw [h]) (fun e => ?_) (by rw [h]) (by rw [h]) (by rw [h]) (by rw [h]) (by rw [h])
  by_cases same : e = c
  · rw [same, State.chain_park_self]; rfl
  · rw [State.chain_park_other s same]

theorem State.enterLost_sameLists (c : ChainNo) : s.SameLists (s.enterLost c) := by
  refine .of_waiting rfl (fun d => ?_) rfl rfl rfl rfl rfl
  rw [State.chain_enterLost]
  split
  · rename_i same; rw [same]; rfl
  · rfl

theorem State.takeExpiry_sameLists (c : ChainNo) (rest : List ChainNo) : s.SameLists (s.takeExpiry c rest) := by
  have begun : s.SameLists (s.setFrame { s.frame with expiries := rest }) := .of_chains rfl rfl rfl rfl rfl rfl rfl
  refine begun.trans ?_
  unfold State.takeExpiry State.periodExpired
  split
  · exact State.modChain_sameLists _ c fun _ => rfl
  · exact State.joinDue_sameLists _ c

theorem State.examine_sameLists (c : ChainNo) : s.SameLists (s.examine c) := by
  unfold State.examine
  split
  · split
    · exact s.modChain_sameLists c fun _ => rfl
    · exact (s.chill_sameLists c .cold).trans (State.grantTest_sameLists _)
  · exact .refl s

theorem State.settled_sameLists (c : ChainNo) : s.SameLists (s.settled c) := by
  have warmed := s.modChain_sameLists c (f := fun r => { r with state := .warm, settle := none, idle := 0 }) fun _ => rfl
  refine State.SameLists.trans ?_ (State.readerChoice_sameLists _)
  exact { warmed with }

theorem State.define_sameLists (r : Request) : s.SameLists (s.define r) := by
  unfold State.define
  dsimp only
  split <;> exact s.setGroup_sameLists _ _

theorem State.filterRead_sameLists (rd : ReadInProgress) : s.SameLists (s.filterRead rd) := by
  unfold State.filterRead
  dsimp only
  rw [State.evaluateChain_eq]
  generalize (s.image rd.chain).filter rd.length (s.chain rd.chain).defn.depth rd.received = i
  obtain ⟨_, _, _, _, generated, keeps⟩ := (s.setImage rd.chain i).generateAll_changes
    ((s.setImage rd.chain i).tripsIn rd.chain allGroups)
  rw [generated]
  exact ⟨rfl, fun _ => rfl, keeps, .inl rfl, rfl, rfl, fun _ h => h⟩

theorem State.judgeRead_sameLists (rd : ReadInProgress) : s.SameLists (s.judgeRead rd) := by
  unfold State.judgeRead
  split
  · refine State.SameLists.trans ?_ (State.filterRead_sameLists _ rd)
    unfold State.recover
    split
    · exact .refl s
    · exact (s.generate_sameLists _).trans (State.modChain_sameLists _ _ fun _ => rfl)
  · have counted := s.modChain_sameLists rd.chain
      (f := fun r => { r with faultRun := (s.chain rd.chain).faultRun + 1 }) fun _ => rfl
    unfold State.badRead
    dsimp only
    split
    · exact (counted.trans (State.generate_sameLists _ _)).trans (State.enterLost_sameLists _ _)
    · split
      · exact counted.trans (State.generate_sameLists _ _)
      · exact counted

theorem State.handBackPlain_sameLists (c : ChainNo) : s.SameLists (s.handBackPlain c) := by
  unfold State.handBackPlain
  split
  · exact .refl s
  · split
    · exact s.chill_sameLists c .cold
    · have warmed := s.modChain_sameLists c (f := fun r => { r with state := .warm, idle := 0 }) fun _ => rfl
      exact { warmed with }

theorem State.openRunning_sameLists (running : s.run.state = .running) : s.SameLists s.openRunningFrame := by
  refine ⟨rfl, fun d => ?_, Memory.keepsBoard_refl _, .inl rfl, rfl, rfl, fun n => absurd running n⟩
  rw [State.chain_openRunningFrame, ChainRec.decremented]
  split <;> rfl

theorem State.tick_sameLists : s.SameLists s.tick := by
  obtain ⟨n, q, ticked⟩ := s.tick_changes
  rw [ticked]
  refine ⟨rfl, fun d => ?_, Memory.keepsBoard_refl _, .inl ?_, rfl, rfl, fun _ h => h⟩
  · simp [State.chain, State.countTimers]
  · rw [show State.read { s.countTimers with fresh := n, pending := q } = s.read.map ReadInProgress.ticked from rfl,
      Option.map_map]
    rfl

end

/-! ## The lists and the taken set -/

/-- The clauses of `takenLaw` about slots and lists. `loose` is the request of a take that stands on no list yet. -/
structure State.Lists (s : State) (loose : Option Held) : Prop where
  atMostSix : s.requests.taken.length ≤ 6
  slotsNodup : (s.requests.taken.map Held.slot).Nodup
  readsTaken : ∀ h ∈ s.requests.taken, s.slotOwner h.slot = slotTaken
  listed : ∀ h ∈ s.requests.taken, some h ≠ loose → h.slot ∈ (s.chain h.request.chain).waiting.slots
  listNodup : ∀ c : ChainNo, (s.chain c).waiting.slots.Nodup
  listTaken : ∀ (c : ChainNo), ∀ k ∈ (s.chain c).waiting.slots, ∃ h ∈ s.requests.taken, h.slot = k ∧ h.request.chain = c
  looseFree : ∀ h ∈ loose, h ∈ s.requests.taken ∧ ∀ c, h.slot ∉ (s.chain c).waiting.slots

/-- What a slot reads is its own in a window whose board is kept. -/
theorem slotOwner_of_keepsBoard {s t : State} (keeps : s.window.keepsBoard t.window) (law : s.windowLaw) (k : SlotNo) :
    t.slotOwner k = s.slotOwner k :=
  (keeps law).2 _ (by have := slotBase_le k; omega)

theorem State.Lists.of_same {s t : State} {loose : Option Held} (h : s.Lists loose) (law : s.windowLaw)
    (same : s.SameLists t) : t.Lists loose := by
  obtain ⟨taken, waiting, window, -, -, -, -⟩ := same
  have owner := slotOwner_of_keepsBoard window law
  constructor <;> simp only [taken, waiting, owner]
  exacts [h.atMostSix, h.slotsNodup, h.readsTaken, h.listed, h.listNodup, h.listTaken, h.looseFree]

/-- A taken slot has one held request. -/
theorem State.heldOf_of_mem {s : State} (nodup : (s.requests.taken.map Held.slot).Nodup) {h : Held}
    (m : h ∈ s.requests.taken) : s.heldOf h.slot = some h.request := by
  unfold State.heldOf
  have found : s.requests.taken.find? (fun x => x.slot == h.slot) = some h := by
    generalize s.requests.taken = l at nodup m
    induction l with
    | nil => cases m
    | cons x l ih =>
      rw [List.map_cons, List.nodup_cons] at nodup
      by_cases same : x = h
      · subst same; simp
      · have m' := (List.mem_cons.mp m).resolve_left (Ne.symm same)
        have apart : x.slot ≠ h.slot := fun e => nodup.1 (e ▸ List.mem_map_of_mem m')
        rw [List.find?_cons_of_neg (by simpa using apart)]
        exact ih nodup.2 m'
  rw [found, Option.map_some]

/-- A held request is one of the taken set. -/
theorem State.mem_of_heldOf {s : State} {k : SlotNo} {r : Request} (h : s.heldOf k = some r) :
    ⟨k, r⟩ ∈ s.requests.taken := by
  obtain ⟨x, found, rfl⟩ := Option.map_eq_some_iff.mp h
  have slot : x.slot = k := by simpa using List.find?_some found
  have m := List.mem_of_find?_eq_some found
  rwa [← slot]

theorem WaitList.slots_remove (w : WaitList) (k : SlotNo) : (w.remove k).slots = w.slots.filter (· != k) := by
  cases w with
  | reads l => rfl
  | deferred d =>
    by_cases same : d = k
    · simp [WaitList.remove, WaitList.slots, same]
    · simp [WaitList.remove, WaitList.slots, same]

/-- The lists after an answer: the slot stands on none, whichever chain it stood on. -/
theorem State.Lists.slots_answer {s : State} {loose : Option Held} (h : s.Lists loose) (k : SlotNo) (a : Answer)
    (d : ChainNo) : ((s.answer k a).chain d).waiting.slots = (s.chain d).waiting.slots.filter (· != k) := by
  rw [State.chain_answer]
  dsimp only
  split
  · rw [WaitList.slots_remove]
  · rename_i notHis
    refine (List.filter_eq_self.mpr fun j m => ?_).symm
    have apart : j ≠ k := by
      rintro rfl
      obtain ⟨x, taken, rfl, chain⟩ := h.listTaken d j m
      exact notHis (by rw [State.heldOf_of_mem h.slotsNodup taken, Option.map_some, chain])
    simpa using apart

theorem State.answer_taken (s : State) (k : SlotNo) (a : Answer) : (s.answer k a).requests.taken = s.takenBut k := rfl

/-- An answer to slot `k` leaves every other slot's owner code. -/
theorem State.slotOwner_answer {s : State} (law : s.windowLaw) {k j : SlotNo} (a : Answer) (apart : j ≠ k) :
    (s.answer k a).slotOwner j = s.slotOwner j := by
  have distinct : slotBase j ≠ slotBase k := fun e => apart (Fin.ext (by unfold slotBase at e; omega))
  have outside : ¬ (slotBase k + 16 ≤ slotBase j ∧ slotBase j < slotBase k + 48) := by unfold slotBase; omega
  show (s.answeredWindow k a).read (slotBase j) = s.window.read (slotBase j)
  rw [State.answeredWindow_read s k a law, if_neg distinct, if_neg outside]

/-- An answer closes its request, listed or loose (R119). -/
theorem State.Lists.answer {s : State} {loose : Option Held} (h : s.Lists loose) (law : s.windowLaw) (k : SlotNo)
    (a : Answer) (his : ∀ x ∈ loose, x.slot = k) : (s.answer k a).Lists none := by
  have mem {x : Held} : x ∈ (s.answer k a).requests.taken ↔ x ∈ s.requests.taken ∧ x.slot ≠ k := by
    rw [State.answer_taken, State.takenBut, List.mem_filter, bne_iff_ne]
  have sublist : ((s.answer k a).requests.taken).Sublist s.requests.taken := List.filter_sublist
  constructor
  case atMostSix => exact sublist.length_le.trans h.atMostSix
  case slotsNodup => exact h.slotsNodup.sublist (sublist.map _)
  case readsTaken =>
    intro x m
    obtain ⟨taken, apart⟩ := mem.mp m
    rw [State.slotOwner_answer law a apart]
    exact h.readsTaken x taken
  case listed =>
    intro x m _
    obtain ⟨taken, apart⟩ := mem.mp m
    rw [h.slots_answer, List.mem_filter]
    exact ⟨h.listed x taken fun e => apart (his x e.symm), by simpa using apart⟩
  case listNodup =>
    intro c
    rw [h.slots_answer]
    exact (h.listNodup c).filter _
  case listTaken =>
    intro c j m
    rw [h.slots_answer, List.mem_filter] at m
    obtain ⟨x, taken, slot, chain⟩ := h.listTaken c j m.1
    exact ⟨x, mem.mpr ⟨taken, by rw [slot]; simpa using m.2⟩, slot, chain⟩
  case looseFree => exact fun _ m => nomatch m

theorem State.windowLaw_answer {s : State} (law : s.windowLaw) (k : SlotNo) (a : Answer) : (s.answer k a).windowLaw :=
  State.windowLaw_of_works (s.answer_works k a) law

/-- Answers one after another close their requests. -/
theorem State.Lists.answerAll {s : State} (h : s.Lists none) (law : s.windowLaw) (ks : List SlotNo) (a : Answer) :
    (s.answerAll ks a).Lists none := by
  unfold State.answerAll
  induction ks generalizing s with
  | nil => exact h
  | cons k ks ih => exact ih (h.answer law k a fun _ m => nomatch m) (State.windowLaw_answer law k a)

theorem State.mem_taken_answerAll {s : State} {ks : List SlotNo} {a : Answer} {x : Held} :
    x ∈ (s.answerAll ks a).requests.taken ↔ x ∈ s.requests.taken ∧ x.slot ∉ ks := by
  unfold State.answerAll
  induction ks generalizing s with
  | nil => simp
  | cons k ks ih =>
    rw [List.foldl_cons, ih, State.answer_taken, State.takenBut, List.mem_filter, List.mem_cons, bne_iff_ne]
    tauto

/-- The lists after answers one after another. -/
theorem State.Lists.slots_answerAll {s : State} (h : s.Lists none) (law : s.windowLaw) (ks : List SlotNo) (a : Answer)
    (d : ChainNo) :
    ((s.answerAll ks a).chain d).waiting.slots = (s.chain d).waiting.slots.filter (fun j => !ks.contains j) := by
  unfold State.answerAll
  induction ks generalizing s with
  | nil => exact (List.filter_eq_self.mpr fun _ _ => rfl).symm
  | cons k ks ih =>
    rw [List.foldl_cons, ih (h.answer law k a fun _ m => nomatch m) (State.windowLaw_answer law k a), h.slots_answer,
      List.filter_filter]
    refine List.filter_congr fun j _ => ?_
    rw [List.contains_cons, Bool.not_or, Bool.and_comm]
    rfl

/-- Answers to other slots leave a deferred marker. -/
theorem State.deferred_answerAll {s : State} {ks : List SlotNo} {a : Answer} {c : ChainNo} {k : SlotNo}
    (h : (s.chain c).waiting = .deferred k) (apart : k ∉ ks) : ((s.answerAll ks a).chain c).waiting = .deferred k := by
  unfold State.answerAll
  induction ks generalizing s with
  | nil => exact h
  | cons j ks ih =>
    rw [List.mem_cons, not_or] at apart
    refine ih ?_ apart.2
    rw [State.chain_answer]
    dsimp only
    split
    · rw [h, WaitList.remove, if_neg apart.1]
    · exact h

/-! ## The take -/

theorem State.slotOwner_beginTake {s : State} (law : s.windowLaw) (k j : SlotNo) :
    (s.beginTake k).slotOwner j = if j = k then slotTaken else s.slotOwner j := by
  show (s.window.write (slotBase k) slotTaken).read (slotBase j) = _
  rw [Memory.read_write law]
  by_cases same : j = k
  · rw [if_pos same, if_pos (by rw [same])]
  · rw [if_neg same, if_neg fun e => same (Fin.ext (by unfold slotBase at e; omega))]
    rfl

/-- A take, once begun, holds its request on no list (R117). -/
theorem State.Lists.beginTake {s : State} (h : s.Lists none) (law : s.windowLaw) {k : SlotNo}
    (posted : s.slotOwner k = slotPosted) (room : s.hasRoom = true) :
    (s.beginTake k).Lists (some ⟨k, s.readRequest k⟩) := by
  have fresh : ∀ x ∈ s.requests.taken, x.slot ≠ k := State.posted_not_taken posted h.readsTaken
  have room' : s.requests.taken.length < 6 := of_decide_eq_true room
  have mem {x : Held} : x ∈ (s.beginTake k).requests.taken ↔ x ∈ s.requests.taken ∨ x = ⟨k, s.readRequest k⟩ := by
    rw [State.beginTake_requests, List.mem_append, List.mem_singleton]
  constructor
  case atMostSix =>
    rw [State.beginTake_requests, List.length_append, List.length_singleton]
    exact room'
  case slotsNodup =>
    rw [State.beginTake_requests, List.map_append, List.nodup_append]
    refine ⟨h.slotsNodup, List.nodup_singleton _, fun j m j' m' e => ?_⟩
    obtain ⟨x, taken, rfl⟩ := List.mem_map.mp m
    exact fresh x taken (by rw [e]; simpa using m')
  case readsTaken =>
    intro x m
    rw [State.slotOwner_beginTake law]
    split
    · rfl
    · rename_i apart
      exact h.readsTaken x ((mem.mp m).resolve_right fun e => apart (by rw [e]))
  case listed => exact fun x m notLoose => h.listed x ((mem.mp m).resolve_right fun e => notLoose (by rw [e])) nofun
  case listNodup => exact h.listNodup
  case listTaken =>
    intro c j m
    obtain ⟨x, taken, rest⟩ := h.listTaken c j m
    exact ⟨x, mem.mpr (.inl taken), rest⟩
  case looseFree =>
    intro x e
    cases e
    refine ⟨mem.mpr (.inr rfl), fun c m => ?_⟩
    obtain ⟨x, taken, slot, -⟩ := h.listTaken c k m
    exact fresh x taken slot

/-- A loose request joins its chain's list, as the last READ_CHAIN or as the deferred marker (R21, R137). -/
theorem State.Lists.placed {s : State} {x : Held} (h : s.Lists (some x)) {w : WaitList}
    (joins : w.slots = (s.chain x.request.chain).waiting.slots ++ [x.slot]) :
    (s.modChain x.request.chain fun r => { r with waiting := w }).Lists none := by
  obtain ⟨taken, free⟩ := h.looseFree x rfl
  have slots (d : ChainNo) : ((s.modChain x.request.chain fun r => { r with waiting := w }).chain d).waiting.slots =
      if d = x.request.chain then (s.chain d).waiting.slots ++ [x.slot] else (s.chain d).waiting.slots := by
    rw [State.chain_modChain]
    by_cases same : d = x.request.chain
    · rw [if_pos same, if_pos same, same]
      exact joins
    · rw [if_neg same, if_neg same]
  refine ⟨h.atMostSix, h.slotsNodup, h.readsTaken, fun y m _ => ?_, fun c => ?_, fun c j m => ?_, fun _ m => nomatch m⟩
  · rw [slots]
    by_cases loose : y = x
    · subst loose; simp
    · have listed := h.listed y m fun e => loose (Option.some.inj e)
      split
      · exact List.mem_append_left _ listed
      · exact listed
  · rw [slots]
    split
    · exact List.nodup_append.mpr ⟨h.listNodup c, List.nodup_singleton _, fun j m j' m' e =>
        free c (by rw [List.mem_singleton] at m'; rwa [← m', ← e])⟩
    · exact h.listNodup c
  · rw [slots] at m
    split at m
    · rename_i same
      rcases List.mem_append.mp m with m | m
      · exact h.listTaken c j m
      · exact ⟨x, taken, (List.mem_singleton.mp m).symm, same.symm⟩
    · exact h.listTaken c j m

end Sys2Proof.Machine
end

section
/-! SUPPORT. The law of the taken set (R111, R121, R123), event by event. -/

namespace Sys2Proof.Machine

open Sys2Proof

/-! ## Checks of the requests that change a chain -/

theorem State.checkSetChain_passes {s : State} {r : Request} (passes : s.checkSetChain r = none) :
    rangeRefusal r.setChainRanges = none ∧ (r.chainDef.pinned = true → s.othersPinned r.chain < s.warmLimit - 1) ∧
      s.groupBeyond r.chain r.chainDef.length = none ∧ (s.chain r.chain).waiting.busy = false := by
  have all := firstRefusal_eq_none.mp passes
  refine ⟨all _ (by simp), fun pinned => ?_, ?_, ?_⟩
  · have pins : (r.chainDef.pinned && decide (s.warmLimit - 1 ≤ s.othersPinned r.chain)) = false :=
      failWhen_eq_none.mp (all (failWhen _ (refusal .range 10)) (by simp))
    rw [pinned, Bool.true_and, decide_eq_false_iff_not] at pins
    exact Nat.lt_of_not_le pins
  · exact Option.map_eq_none_iff.mp (all ((s.groupBeyond r.chain r.chainDef.length).map fun n =>
      refusal .conflict n.val) (by simp))
  · exact failWhen_eq_none.mp (all (failWhen (s.chain r.chain).waiting.busy (refusal .conflict 0xFF)) (by simp))

theorem State.checkParkChain_passes {s : State} {r : Request} (passes : s.checkParkChain r = none) :
    (s.chain r.chain).state ≠ .off ∧ (s.chain r.chain).state ≠ .lost ∧ (s.chain r.chain).waiting.busy = false := by
  have all := firstRefusal_eq_none.mp passes
  refine ⟨?_, ?_, ?_⟩
  · simpa using all (failWhen ((s.chain r.chain).state == .off) (refusal .chainOff 0)) (by simp)
  · simpa using all (failWhen ((s.chain r.chain).state == .lost) (refusal .chainLost 0)) (by simp)
  · exact failWhen_eq_none.mp (all (failWhen (s.chain r.chain).waiting.busy (refusal .conflict 0xFF)) (by simp))

theorem WaitList.slots_of_notBusy {w : WaitList} (h : w.busy = false) : w.slots = [] := by
  cases w with
  | reads l => simpa [WaitList.busy, WaitList.slots] using h
  | deferred k => cases h

theorem WaitList.slots_push {w : WaitList} (h : w.marked = false) (k : SlotNo) : (w.push k).slots = w.slots ++ [k] := by
  cases w with
  | reads l => rfl
  | deferred k => cases h

/-! ## The slots attached to the read in progress -/

/-- The slots attached to the read in progress stand on its chain's list (R37). -/
def State.Attached (s : State) : Prop := ∀ rd ∈ s.read, ∀ k ∈ rd.attached, k ∈ (s.chain rd.chain).waiting.slots

theorem State.Attached.of_same {s t : State} (h : s.Attached) (same : s.SameLists t) : t.Attached := by
  intro rd reading k m
  rw [same.waiting]
  rcases same.reads with viewed | ⟨-, starts⟩
  · rw [show t.read = some rd from reading, Option.map_some, eq_comm, Option.map_eq_some_iff] at viewed
    obtain ⟨rd', reading', e⟩ := viewed
    obtain ⟨chain, attached⟩ := Prod.mk.inj e
    rw [← chain]
    exact h rd' reading' k (attached ▸ m)
  · rwa [starts rd reading] at m

theorem State.Attached.of_idle {s : State} (idle : s.read = none) : s.Attached := fun rd reading => by
  rw [idle] at reading
  cases reading

/-- An answer to a request on no list leaves the attached slots. -/
theorem State.Attached.answer {s : State} (h : s.Attached) {x : Held} (lists : s.Lists (some x)) (a : Answer) :
    (s.answer x.slot a).Attached := by
  intro rd reading k m
  have reading' : rd ∈ s.read := by
    obtain ⟨_, answered⟩ := s.answer_changes x.slot a
    rwa [answered] at reading
  have listed := h rd reading' k m
  rw [lists.slots_answer, List.mem_filter]
  refine ⟨listed, ?_⟩
  have apart : k ≠ x.slot := fun e => (lists.looseFree x rfl).2 rd.chain (e ▸ listed)
  simpa using apart

/-- A request that joins a list leaves the slots on it. -/
theorem State.Attached.placed {s : State} (h : s.Attached) {c : ChainNo} {w : WaitList} {k : SlotNo}
    (joins : w.slots = (s.chain c).waiting.slots ++ [k]) :
    (s.modChain c fun r => { r with waiting := w }).Attached := by
  intro rd reading j m
  have listed := h rd reading j m
  rw [State.chain_modChain]
  split
  · rename_i same
    rw [same] at listed
    show j ∈ w.slots
    rw [joins]
    exact List.mem_append_left _ listed
  · exact listed

/-! ## The law in parts -/

theorem State.Taken.lists {s : State} (h : s.Taken) : s.Lists none :=
  ⟨h.atMostSix, h.slotsNodup, h.readsTaken, fun x m _ => h.listed x m, h.listNodup, h.listTaken, fun _ m => nomatch m⟩

theorem State.Lists.taken {s : State} (h : s.Lists none) (attached : s.Attached)
    (sweep : s.run.state ≠ .running → s.frame.sweep = [])
    (draining : s.run.state = .draining → ∀ x ∈ s.requests.taken, s.belongsToRead x.slot = true)
    (idle : s.run.state = .idle → s.requests.taken = []) : s.Taken :=
  ⟨h.atMostSix, h.slotsNodup, h.readsTaken, fun x m => h.listed x m nofun, h.listNodup, h.listTaken, attached, sweep,
    draining, idle⟩

/-- In RUNNING the law speaks of lists alone. -/
theorem State.Lists.taken_of_running {s : State} (h : s.Lists none) (attached : s.Attached)
    (running : s.run.state = .running) : s.Taken :=
  h.taken attached (fun n => absurd running n) (fun n => by rw [running] at n; cases n)
    (fun n => by rw [running] at n; cases n)

/-- With no slot taken and no read in progress the law speaks of the sweep alone. -/
theorem State.Lists.taken_of_none {s : State} (h : s.Lists none) (none : s.requests.taken = []) (idle : s.read = .none)
    (sweep : s.run.state ≠ .running → s.frame.sweep = []) : s.Taken :=
  h.taken (.of_idle idle) sweep (fun _ x m => by rw [none] at m; cases m) (fun _ => none)

theorem State.belongsToRead_iff {s : State} {k : SlotNo} : s.belongsToRead k = true ↔
    ∃ rd, s.read = some rd ∧ (k ∈ rd.attached ∨ (s.chain rd.chain).waiting = .deferred k) := by
  unfold State.belongsToRead
  cases s.read with
  | none => simp
  | some rd => simp

theorem State.Taken.of_same {s t : State} (h : s.Taken) (law : s.windowLaw) (same : s.SameLists t) : t.Taken := by
  refine (h.lists.of_same law same).taken (State.Attached.of_same h.attachedListed same) (fun n => ?_) (fun n x m => ?_)
    (fun n => ?_)
  · rw [same.run] at n
    exact same.sweep n (h.sweepRunning n)
  · rw [same.taken] at m
    obtain ⟨rd, reading, his⟩ := State.belongsToRead_iff.mp (h.drainingBelongs (same.run ▸ n) x m)
    rcases same.reads with viewed | ⟨idle, -⟩
    · rw [reading, Option.map_some, Option.map_eq_some_iff] at viewed
      obtain ⟨rd', reading', e⟩ := viewed
      obtain ⟨chain, attached⟩ := Prod.mk.inj e
      refine State.belongsToRead_iff.mpr ⟨rd', reading', ?_⟩
      rw [attached, chain, same.waiting]
      exact his
    · rw [idle] at reading
      cases reading
  · rw [same.taken]
    exact h.idleNone (same.run ▸ n)

/-! ## Takes -/

/-- What a take makes of a request on no list: its answer, after work that leaves lists, or its place on the list of its
chain. -/
theorem State.Lists.takeSlot {s : State} (h : s.Taken) (law : s.windowLaw) {k : SlotNo}
    (posted : s.slotOwner k = slotPosted) (room : s.hasRoom = true) :
    (s.takeSlot k).Lists none ∧ (s.takeSlot k).Attached := by
  have begunLaw : (s.beginTake k).windowLaw := Memory.wf_write law _ _
  have begun := h.lists.beginTake law posted room
  have attached : (s.beginTake k).Attached := h.attachedListed
  have answered {t : State} (same : (s.beginTake k).SameLists t) (a : Answer) :
      (t.answer k a).Lists none ∧ (t.answer k a).Attached := by
    have lists := begun.of_same begunLaw same
    exact ⟨lists.answer (same.window begunLaw).1 k a (fun x e => by cases e; rfl),
      State.Attached.answer (attached.of_same same) lists a⟩
  have placed {w : WaitList} (joins : w.slots = ((s.beginTake k).chain (s.readRequest k).chain).waiting.slots ++ [k]) :
      ((s.beginTake k).modChain (s.readRequest k).chain fun r => { r with waiting := w }).Lists none ∧
        ((s.beginTake k).modChain (s.readRequest k).chain fun r => { r with waiting := w }).Attached :=
    ⟨begun.placed joins, attached.placed joins⟩
  unfold State.takeSlot
  dsimp only
  generalize s.readRequest k = r at *
  cases kindOf r.kind with
  | none => exact answered (.refl _) _
  | some kind =>
    cases kind with
    | setChain =>
      dsimp only [State.actSetChain]
      split
      · exact answered (.refl _) _
      · rename_i passes
        obtain ⟨-, -, -, free⟩ := State.checkSetChain_passes passes
        split
        · exact placed (w := .deferred k) (by rw [WaitList.slots_of_notBusy free]; rfl)
        · exact answered (State.reconfigure_sameLists _ _ _) _
    | readChain =>
      dsimp only [State.actReadChain]
      split
      · exact answered (.refl _) _
      · rename_i passes
        obtain ⟨-, -, unmarked⟩ := State.checkReadChain_passes passes
        obtain ⟨lists, stays⟩ := placed (WaitList.slots_push unmarked k)
        have joined := State.joinDue_sameLists ((s.beginTake k).modChain r.chain fun x =>
          { x with waiting := ((s.beginTake k).chain r.chain).waiting.push k }) r.chain
        exact ⟨lists.of_same begunLaw joined, stays.of_same joined⟩
    | parkChain =>
      dsimp only [State.actParkChain]
      split
      · exact answered (.refl _) _
      · rename_i passes
        obtain ⟨-, -, free⟩ := State.checkParkChain_passes passes
        split
        · exact placed (w := .deferred k) (by rw [WaitList.slots_of_notBusy free]; rfl)
        · exact answered (State.park_sameLists _ _) _
    | setGroup =>
      dsimp only [State.actSetGroup]
      split
      · exact answered (.refl _) _
      · exact answered (State.define_sameLists _ r) _
    | rearmGroup =>
      dsimp only [State.actRearm]
      split
      · exact answered (.refl _) _
      · exact answered (State.setGroup_sameLists _ _ _) _
    | dropGroup =>
      dsimp only [State.actDrop]
      split
      · exact answered (.refl _) _
      · exact answered (State.setGroup_sameLists _ _ _) _
    | flush =>
      dsimp only [State.actFlush]
      split
      · exact answered (.refl _) _
      · exact answered (State.sameLists_of_recordPath (State.closePage_path _ _)) _

/-! ## Read completion -/

/-- A deferred request is answered, whatever the hand-back makes of its chain (R15). -/
theorem State.handBackDeferred_eq (s : State) (c : ChainNo) (k : SlotNo) (r : Request) :
    ∃ t a, s.SameLists t ∧ s.handBackDeferred c k r = t.answer k a := by
  unfold State.handBackDeferred
  split
  · exact ⟨_, _, s.reconfigure_sameLists c _, rfl⟩
  · split
    · exact ⟨_, _, .refl s, rfl⟩
    · exact ⟨_, _, s.park_sameLists c, rfl⟩

/-- The hand-back closes the deferred request of its chain, and no other. -/
theorem State.Lists.handBack {s : State} (h : s.Lists none) (law : s.windowLaw) (c : ChainNo) :
    (s.handBack c).Lists none ∧
      ∀ x ∈ (s.handBack c).requests.taken, x ∈ s.requests.taken ∧ (s.chain c).waiting ≠ .deferred x.slot := by
  have plain : s.SameLists (s.handBackPlain c).grantTest :=
    (s.handBackPlain_sameLists c).trans (State.grantTest_sameLists _)
  unfold State.handBack
  split
  · rename_i l reads
    refine ⟨h.of_same law plain, fun x m => ⟨plain.taken ▸ m, ?_⟩⟩
    rw [reads]
    exact WaitList.noConfusion
  · rename_i k deferred
    split
    · rename_i r held
      obtain ⟨t, a, same, acts⟩ := s.handBackDeferred_eq c k r
      have tested := State.grantTest_sameLists (t.answer k a)
      have lists := (h.of_same law same).answer (same.window law).1 k a (fun _ m => nomatch m)
      rw [acts]
      refine ⟨lists.of_same (State.windowLaw_answer (same.window law).1 k a) tested, fun x m => ?_⟩
      rw [tested.taken, State.answer_taken, State.takenBut, same.taken, List.mem_filter, bne_iff_ne] at m
      rw [deferred, Ne, WaitList.deferred.injEq]
      exact ⟨m.1, Ne.symm m.2⟩
    · rename_i unheld
      refine ⟨h.of_same law plain, fun x m => ?_⟩
      rw [plain.taken] at m
      refine ⟨m, fun e => ?_⟩
      rw [deferred, WaitList.deferred.injEq] at e
      rw [e, State.heldOf_of_mem h.slotsNodup m] at unheld
      cases unheld

/-- The answers of a good read close the attached requests, and no other (R45). -/
theorem State.Lists.answerImages {s : State} (h : s.Lists none) (law : s.windowLaw) (rd : ReadInProgress) (i : Image) :
    (s.answerImages rd i).Lists none ∧
      ∀ x ∈ (s.answerImages rd i).requests.taken, x ∈ s.requests.taken ∧ x.slot ∉ rd.attached := by
  unfold State.answerImages
  generalize rd.attached = ks
  induction ks generalizing s with
  | nil => exact ⟨h, fun x m => ⟨m, List.not_mem_nil⟩⟩
  | cons k ks ih =>
    rw [List.foldl_cons]
    cases held : s.heldOf k with
    | none =>
      obtain ⟨lists, rest⟩ := ih h law
      refine ⟨lists, fun x m => ?_⟩
      obtain ⟨taken, others⟩ := rest x m
      refine ⟨taken, ?_⟩
      rw [List.mem_cons, not_or]
      refine ⟨fun e => ?_, others⟩
      rw [← e, State.heldOf_of_mem h.slotsNodup taken] at held
      cases held
    | some r =>
      obtain ⟨lists, rest⟩ := ih (h.answer law k (imageAnswer i rd.length r) fun _ m => nomatch m)
        (State.windowLaw_answer law k _)
      refine ⟨lists, fun x m => ?_⟩
      obtain ⟨taken, others⟩ := rest x m
      rw [State.answer_taken, State.takenBut, List.mem_filter, bne_iff_ne] at taken
      rw [List.mem_cons, not_or]
      exact ⟨taken.1, taken.2, others⟩

/-- Stage 6 closes the attached requests (R45). -/
theorem State.Lists.answerReads {s : State} (h : s.Lists none) (law : s.windowLaw) (rd : ReadInProgress) (good : Bool)
    (judged : State) : (s.answerReads rd good judged).Lists none ∧
      ∀ x ∈ (s.answerReads rd good judged).requests.taken, x ∈ s.requests.taken ∧ x.slot ∉ rd.attached := by
  unfold State.answerReads
  split
  · exact h.answerImages law rd _
  · split
    · refine ⟨h.answerAll law _ _, fun x m => ?_⟩
      obtain ⟨taken, others⟩ := State.mem_taken_answerAll.mp m
      exact ⟨taken, fun attached => others (List.mem_append_left _ attached)⟩
    · exact ⟨h.answerAll law _ _, fun x m => State.mem_taken_answerAll.mp m⟩

/-- A read completion closes every request that belongs to the read (R45, R123). -/
theorem State.Lists.finishRead {s : State} (h : s.Lists none) (law : s.windowLaw) (rd : ReadInProgress) :
    (s.finishRead rd).Lists none ∧ ∀ x ∈ (s.finishRead rd).requests.taken, x ∈ s.requests.taken ∧
      x.slot ∉ rd.attached ∧ (s.chain rd.chain).waiting ≠ .deferred x.slot := by
  have counted : s.SameLists (s.countRead rd.chain) := s.modChain_sameLists _ fun _ => rfl
  have judged := counted.trans ((s.countRead rd.chain).judgeRead_sameLists rd)
  have judgedLaw := (judged.window law).1
  obtain ⟨handed, hands⟩ := (h.of_same law judged).handBack judgedLaw rd.chain
  have handedLaw := State.windowLaw_of_works (State.handBack_works _ rd.chain) judgedLaw
  obtain ⟨answered, answers⟩ := handed.answerReads handedLaw rd ((s.countRead rd.chain).readGood rd)
    ((s.countRead rd.chain).judgeRead rd)
  refine ⟨{ answered with }, fun x m => ?_⟩
  obtain ⟨taken, notAttached⟩ := answers x m
  obtain ⟨taken', notDeferred⟩ := hands x taken
  rw [judged.waiting] at notDeferred
  exact ⟨judged.taken ▸ taken', notAttached, notDeferred⟩

theorem State.Taken.drainTest {s : State} (h : s.Taken) : s.drainTest.Taken := by
  unfold State.drainTest
  split
  · rename_i ends
    simp only [Bool.and_eq_true, decide_eq_true_eq, Option.isNone_iff_eq_none] at ends
    obtain ⟨⟨draining, idle⟩, -⟩ := ends
    have none : s.requests.taken = [] := by
      refine List.eq_nil_iff_forall_not_mem.mpr fun x m => ?_
      obtain ⟨rd, reading, -⟩ := State.belongsToRead_iff.mp (h.drainingBelongs draining x m)
      rw [idle] at reading
      cases reading
    obtain ⟨r, w, p, f, closed, keeps, -⟩ := State.recordPath_trans s.finishPageWork_path
      (State.closePage_path s.finishPageWork .stop)
    have ended : s.finishPageWork.drainEnd = { s with
        run := { s.run with state := .idle, frameTimer := .none }, frame := FrameWork.empty, records := r, window := w
        pages := p, alerts := { s.alerts with flags := f ||| Flag.mask .stopped } } := by
      unfold State.drainEnd
      rw [closed]
      rfl
    rw [ended]
    refine State.Lists.taken_of_none ?_ none idle (fun _ => rfl)
    exact { h.lists with readsTaken := fun x m => by rw [none] at m; cases m }
  · exact h

theorem State.Taken.completion {s : State} (h : s.Taken) (law : s.windowLaw) {rd : ReadInProgress}
    (reading : s.read = some rd) : (s.finishRead rd).readerChoice.drainTest.Taken := by
  obtain ⟨lists, members⟩ := h.lists.finishRead law rd
  have works := s.finishRead_works rd
  have finishedLaw := State.windowLaw_of_works works law
  have finished : (s.finishRead rd).Taken := by
    refine lists.taken (.of_idle rfl) (fun n => ?_) (fun n x m => ?_) (fun n => ?_)
    · rw [works.run] at n
      rw [works.sweep]
      exact h.sweepRunning n
    · rw [works.run] at n
      obtain ⟨taken, notAttached, notDeferred⟩ := members x m
      obtain ⟨rd', reading', his⟩ := State.belongsToRead_iff.mp (h.drainingBelongs n x taken)
      rw [reading] at reading'
      cases reading'
      exact absurd his (not_or.mpr ⟨notAttached, notDeferred⟩)
    · rw [works.run] at n
      refine List.eq_nil_iff_forall_not_mem.mpr fun x m => ?_
      have taken := (members x m).1
      rw [h.idleNone n] at taken
      cases taken
  have chosen := State.readerChoice_sameLists (s.finishRead rd)
  exact (finished.of_same finishedLaw chosen).drainTest

/-! ## STOP and START -/

theorem State.Lists.abandonRead {s : State} (h : s.Lists none) (law : s.windowLaw) (a : Answer) :
    (s.abandonRead a).Lists none ∧ (s.abandonRead a).read = none ∧
      ∀ x ∈ (s.abandonRead a).requests.taken, x ∈ s.requests.taken ∧
        ∀ rd ∈ s.read, x.slot ∉ (s.chain rd.chain).waiting.slots := by
  unfold State.abandonRead
  split
  · rename_i idle
    exact ⟨h, idle, fun x m => ⟨m, fun rd reading => by rw [idle] at reading; cases reading⟩⟩
  · rename_i rd reading
    have chilled : State.Lists { s.chill rd.chain .cold with read := none } none :=
      { h.of_same law (s.chill_sameLists rd.chain .cold) with }
    refine ⟨chilled.answerAll law _ a, State.answerAll_read _ _ a, fun x m => ?_⟩
    obtain ⟨taken, others⟩ := State.mem_taken_answerAll.mp m
    refine ⟨taken, fun rd' reading' => ?_⟩
    rw [reading] at reading'
    cases reading'
    exact others

/-- In a drain the requests on the read chain's list are all there are. -/
theorem State.Taken.listed_of_draining {s : State} (h : s.Taken) (draining : s.run.state = .draining) {x : Held}
    (m : x ∈ s.requests.taken) : ∃ rd ∈ s.read, x.slot ∈ (s.chain rd.chain).waiting.slots := by
  obtain ⟨rd, reading, his⟩ := State.belongsToRead_iff.mp (h.drainingBelongs draining x m)
  refine ⟨rd, reading, ?_⟩
  rcases his with attached | deferred
  · exact h.attachedListed rd reading _ attached
  · rw [deferred]
    exact List.mem_singleton_self _

theorem State.Taken.secondStop {s : State} (h : s.Taken) (law : s.windowLaw) (draining : s.run.state = .draining) :
    s.secondStop.Taken := by
  obtain ⟨lists, idle, members⟩ := h.lists.abandonRead law (Answer.plain .stopped)
  have none : (s.abandonRead (Answer.plain .stopped)).requests.taken = [] := by
    refine List.eq_nil_iff_forall_not_mem.mpr fun x m => ?_
    obtain ⟨taken, unlisted⟩ := members x m
    obtain ⟨rd, reading, listed⟩ := h.listed_of_draining draining taken
    exact unlisted rd reading listed
  obtain ⟨r, w, p, f, closed, -, -⟩ := (s.abandonRead (Answer.plain .stopped)).discardQueue.closePage_path .stop
  have ended : s.secondStop = { s.abandonRead (Answer.plain .stopped) with
      run := { (s.abandonRead (Answer.plain .stopped)).run with state := .idle, frameTimer := .none }
      frame := FrameWork.empty, records := r, window := w, pages := p
      alerts := { (s.abandonRead (Answer.plain .stopped)).alerts with flags := f ||| Flag.mask .stopped } } := by
    unfold State.secondStop State.drainEnd
    rw [closed]
    rfl
  rw [ended]
  refine State.Lists.taken_of_none ?_ none idle (fun _ => rfl)
  exact { lists with readsTaken := fun x m => by rw [none] at m; cases m }

theorem ChainRec.drained_waiting (r : ChainRec) : r.drained.waiting = r.waiting := by
  unfold ChainRec.drained
  split <;> rfl

theorem State.mem_takenAscending {s : State} {k : SlotNo} : k ∈ s.takenAscending ↔ (s.heldOf k).isSome = true := by
  unfold State.takenAscending
  rw [List.mem_filter]
  exact and_iff_right (mem_allChains k)

theorem State.Taken.enterDraining {s : State} (h : s.Taken) (law : s.windowLaw) : s.enterDraining.Taken := by
  have halted : s.halt.Lists none := by
    have waiting (d : ChainNo) : (s.halt.chain d).waiting = (s.chain d).waiting := by
      rw [State.chain_halt, ChainRec.drained_waiting]
    exact { h.lists with
      listed := fun x m n => by rw [waiting]; exact h.lists.listed x m n
      listNodup := fun c => by rw [waiting]; exact h.listNodup c
      listTaken := fun c k m => h.listTaken c k (by rwa [waiting] at m)
      looseFree := fun _ m => nomatch m }
  have his {k : SlotNo} (belongs : s.belongsToRead k = true) :
      k ∉ s.takenAscending.filter fun k => !s.belongsToRead k := by
    rw [List.mem_filter, belongs]
    simp
  have read : s.enterDraining.read = s.read := by rw [s.enterDraining_eq, State.answerAll_read]; rfl
  have run : s.enterDraining.run.state = .draining := by rw [s.enterDraining_run]
  have frame : s.enterDraining.frame = FrameWork.empty := by
    obtain ⟨_, _, _, _, answered⟩ := s.halt.answerAll_changes
      (s.takenAscending.filter fun k => !s.belongsToRead k) (Answer.plain .stopped)
    rw [s.enterDraining_eq, answered]
    rfl
  refine State.Lists.taken (s.enterDraining_eq ▸ halted.answerAll law _ _) (fun rd reading k m => ?_)
    (fun _ => by rw [frame]; rfl) (fun _ x m => ?_) (fun n => by rw [run] at n; cases n)
  · rw [read] at reading
    rw [s.enterDraining_eq, halted.slots_answerAll law, List.mem_filter, State.chain_halt, ChainRec.drained_waiting]
    refine ⟨h.attachedListed rd reading k m, ?_⟩
    rw [List.contains_eq_mem, decide_eq_false (his (State.belongsToRead_iff.mpr ⟨rd, reading, .inl m⟩)), Bool.not_false]
  · rw [s.enterDraining_eq, State.mem_taken_answerAll] at m
    obtain ⟨taken, kept⟩ := m
    have belongs : s.belongsToRead x.slot = true := by
      by_contra other
      refine kept (List.mem_filter.mpr ⟨State.mem_takenAscending.mpr ?_, by simpa using other⟩)
      rw [State.heldOf_of_mem h.slotsNodup taken]
      rfl
    obtain ⟨rd, reading, attached | deferred⟩ := State.belongsToRead_iff.mp belongs
    · exact State.belongsToRead_iff.mpr ⟨rd, by rw [read, reading], .inl attached⟩
    · refine State.belongsToRead_iff.mpr ⟨rd, by rw [read, reading], .inr ?_⟩
      rw [s.enterDraining_eq]
      exact State.deferred_answerAll (by rw [State.chain_halt, ChainRec.drained_waiting, deferred]) (his belongs)

/-- With no slot taken and no list in use the law speaks of the sweep alone. -/
theorem State.taken_of_noneTaken {s : State} (none : s.requests.taken = [])
    (lists : ∀ c, (s.chain c).waiting.slots = []) (idle : s.read = .none)
    (sweep : s.run.state ≠ .running → s.frame.sweep = []) : s.Taken := by
  refine State.Lists.taken_of_none ?_ none idle sweep
  constructor <;> simp [none, lists]

theorem State.AtReset.noList {s : State} (r : s.AtReset) (c : ChainNo) : (s.chain c).waiting.slots = [] := by
  rw [r.chain]
  rfl

theorem State.taken_acceptStart (s : State) : s.acceptStart.Taken :=
  State.taken_of_noneTaken rfl (fun c => by simp [State.chain, State.acceptStart, ChainRec.started, WaitList.slots]) rfl
    fun _ => rfl

/-! ## The host's bytes -/

/-- The filter lets no host byte onto the owner code of a taken slot (R114, R178). -/
theorem filterAccepts_slotTaken (k : SlotNo) (b : Byte) : filterAccepts (slotBase k) slotTaken b = false := by
  have bounds := slotBase_le k
  have phase : (slotBase k - 0x40) % 0x30 = 0 := by unfold slotBase; omega
  unfold filterAccepts
  rw [if_neg (by omega), if_neg (by omega), if_pos (by omega), if_pos phase]
  simp [slotOwnerAccepts]

theorem State.slotOwner_hostByte {s : State} (law : s.windowLaw) {k : SlotNo} (taken : s.slotOwner k = slotTaken)
    (a : WindowAddr) (b : Byte) : (s.hostByte a b).slotOwner k = slotTaken := by
  unfold State.hostByte
  split
  · rename_i accepted
    simp only [Bool.and_eq_true] at accepted
    show (s.window.write a.toNat b).read (slotBase k) = slotTaken
    rw [Memory.read_write law]
    split
    · rename_i same
      rw [← same, show s.window.read (slotBase k) = slotTaken from taken, filterAccepts_slotTaken] at accepted
      exact absurd accepted.2 Bool.false_ne_true
    · exact taken
  · exact taken

/-! ## Every event -/

/-- An event leaves lists, taken set, groups, images and definitions, but for the resets, the rise of nRESET, the
host's bytes, START, STOP, the
drain-end test, a take and a read completion. -/
theorem State.Event.sameLists_or {s t : State} (e : s.Event t) : (s.SameLists t ∧ s.Kept t) ∨
    (t.chains = Vector.replicate 16 ChainRec.reset ∧ t.requests.taken = [] ∧ t.read = none ∧ t.frame = FrameWork.empty ∧
      (t.run.state = .init ∨ t.run.state = .idle)) ∨
    (∃ q, (s.run.state = .init ∨ s.run.nresetLow = true) ∧ (t.run.state = .init ∨ t.run.state = .idle) ∧ t.chains = s.chains ∧
      t.requests = s.requests ∧ t.read = s.read ∧ t.frame = s.frame ∧ t.window = q) ∨
    (∃ a b, t = s.hostByte a b) ∨ (t = s.acceptStart ∧ s.startRefusal = 0) ∨
    (t = s.enterDraining ∧ s.run.state = .running) ∨ (t = s.secondStop ∧ s.run.state = .draining) ∨ t = s.drainTest ∨
    (∃ k rest, s.frame.sweep = k :: rest ∧ s.slotOwner k = slotPosted ∧ s.hasRoom = true ∧
      t = (s.setSweep rest).takeSlot k) ∨
    ∃ rd, s.read = some rd ∧ t = (s.finishRead rd).readerChoice.drainTest := by
  cases e with
  | hardReset => exact .inr (.inl ⟨rfl, rfl, rfl, rfl, .inl rfl⟩)
  | softReset => exact .inr (.inl ⟨rfl, rfl, rfl, rfl, .inr rfl⟩)
  | nresetRise k low => exact .inr (.inr (.inl ⟨_, .inr low, .inl rfl, rfl, rfl, rfl, rfl, rfl⟩))
  | initEnd init => exact .inr (.inr (.inl ⟨_, .inl init, .inr rfl, rfl, rfl, rfl, rfl, rfl⟩))
  | hostByte a b => exact .inr (.inr (.inr (.inl ⟨a, b, rfl⟩)))
  | acceptStart _ passes => exact .inr (.inr (.inr (.inr (.inl ⟨rfl, passes⟩))))
  | enterDraining running => exact .inr (.inr (.inr (.inr (.inr (.inl ⟨rfl, running⟩)))))
  | secondStop draining => exact .inr (.inr (.inr (.inr (.inr (.inr (.inl ⟨rfl, draining⟩))))))
  | drainTest => exact .inr (.inr (.inr (.inr (.inr (.inr (.inr (.inl rfl)))))))
  | @take k rest visits posted room =>
    exact .inr (.inr (.inr (.inr (.inr (.inr (.inr (.inr (.inl ⟨k, rest, visits, posted, room, rfl⟩))))))))
  | @completion rd reading =>
    exact .inr (.inr (.inr (.inr (.inr (.inr (.inr (.inr (.inr ⟨rd, reading, rfl⟩))))))))
  | openRunning running =>
    exact .inl ⟨s.openRunning_sameLists running,
      .of_read rfl rfl (fun d => by rw [State.chain_openRunningFrame, ChainRec.decremented_defn]) rfl⟩
  | openDraining =>
    exact .inl ⟨⟨rfl, fun _ => rfl, Memory.keepsBoard_refl _, .inl rfl, rfl, rfl, fun _ _ => rfl⟩,
      .of_chains rfl rfl rfl rfl⟩
  | @takeExpiry c rest =>
    exact .inl ⟨s.takeExpiry_sameLists c rest,
      (s.setFrame_kept { s.frame with expiries := rest }).trans (State.periodExpired_kept _ c)⟩
  | examine c => exact .inl ⟨s.examine_sameLists c, s.examine_kept c⟩
  | pageWriterWork =>
    have begun : s.SameLists (s.setFrame { s.frame with pageWork := false }) := .of_chains rfl rfl rfl rfl rfl rfl rfl
    exact .inl ⟨begun.trans (State.sameLists_of_recordPath s.pageWriterWork_path),
      (s.setFrame_kept { s.frame with pageWork := false }).trans (State.kept_of_recordPath s.pageWriterWork_path)⟩
  | passSweep fewer =>
    refine .inl ⟨⟨rfl, fun _ => rfl, Memory.keepsBoard_refl _, .inl rfl, rfl, rfl, fun _ none => ?_⟩,
      s.setSweep_kept _⟩
    rw [none] at fewer
    exact List.suffix_nil.mp fewer
  | staleCompletion c => exact .inl ⟨s.modChain_sameLists c fun _ => rfl, s.modChain_kept c fun _ => rfl⟩
  | @settled c => exact .inl ⟨s.settled_sameLists c, s.settled_kept c⟩
  | grant granted =>
    have changes := State.grantOne_changes granted
    exact .inl ⟨State.sameLists_of_granted changes, State.kept_of_granted changes⟩
  | readerChoice => exact .inl ⟨s.readerChoice_sameLists, s.readerChoice_kept⟩
  | @bit rd inputs reading =>
    refine .inl ⟨⟨rfl, fun _ => rfl, Memory.keepsBoard_refl _, .inl ?_, rfl, rfl, fun _ h => h⟩,
      ⟨rfl, rfl, fun _ => rfl, fun rd' h => .inl ⟨rd, reading, ?_⟩⟩⟩
    · have viewed : (rd.bit inputs).view = rd.view := by
        unfold ReadInProgress.bit ReadInProgress.view
        split <;> [skip; split] <;> rfl
      rw [reading, Option.map_some, Option.map_some, viewed]
    · cases h
      exact ⟨(rd.bit_chain inputs).symm, (rd.bit_length inputs).symm⟩
  | overrunRecord =>
    obtain ⟨r, placed⟩ := s.placeOverrun_changes
    have same : s.SameLists { s with records := r } := .of_chains rfl rfl rfl rfl rfl rfl rfl
    have kept : s.Kept { s with records := r } := .of_chains rfl rfl rfl rfl
    rw [placed]
    exact .inl ⟨same.trans (State.sameLists_of_recordPath (State.pump_path _)),
      kept.trans (State.kept_of_recordPath (State.pump_path _))⟩
  | tick => exact .inl ⟨s.tick_sameLists, s.tick_kept⟩
  | outside | clearFlags | setEnables | refuseStart | dropCoolDowns =>
    exact .inl ⟨.of_chains rfl rfl rfl rfl rfl rfl rfl, .of_chains rfl rfl rfl rfl⟩

theorem State.Taken.hostByte {s : State} (h : s.Taken) (law : s.windowLaw) (a : WindowAddr) (b : Byte) :
    (s.hostByte a b).Taken := by
  have owner := fun x m => State.slotOwner_hostByte law (h.readsTaken x m) a b
  unfold State.hostByte at owner ⊢
  split
  · rename_i accepted
    rw [if_pos accepted] at owner
    exact { h with readsTaken := owner }
  · exact h

theorem State.Event.takenLaw {s t : State} (e : s.Event t) (init : s.initLaw) (law : s.windowLaw) (h : s.Taken) :
    t.Taken := by
  obtain ⟨atReset, low⟩ := State.initLaw_iff.mp init
  rcases e.sameLists_or with ⟨same, -⟩ | ⟨chains, taken, read, frame, -⟩ |
    ⟨-, was, -, chains, requests, read, frame, -⟩ | ⟨a, b, rfl⟩ | ⟨rfl, -⟩ | ⟨rfl, -⟩ | ⟨rfl, draining⟩ | rfl |
    ⟨k, rest, visits, posted, room, rfl⟩ | ⟨rd, reading, rfl⟩
  · exact h.of_same law same
  · exact State.taken_of_noneTaken taken (fun c => by rw [State.chain_of_reset chains]; rfl) read
      fun _ => congrArg FrameWork.sweep frame
  · have r := atReset (was.elim id fun isLow => (low isLow).1)
    exact State.taken_of_noneTaken (requests ▸ r.taken) (fun c => by rw [State.chain, chains]; exact r.noList c)
      (read.trans r.read) fun _ => congrArg FrameWork.sweep (frame.trans r.frame)
  · exact h.hostByte law a b
  · exact s.taken_acceptStart
  · exact h.enterDraining law
  · exact h.secondStop law draining
  · exact h.drainTest
  · have running : s.run.state = .running := by
      by_contra n
      rw [h.sweepRunning n] at visits
      cases visits
    have swept : (s.setSweep rest).Taken := State.Lists.taken_of_running { h.lists with } h.attachedListed running
    obtain ⟨lists, attached⟩ := State.Lists.takeSlot swept law posted room
    exact lists.taken_of_running attached (by rw [State.takeSlot_run]; exact running)
  · exact h.completion law reading

/-- Settles O56: a take adds a slot to the taken set and to its chain's list or answers it, an answer removes it from
both, and the host cannot write its owner code. -/
theorem stepKeepsTakenSetLaw : Obligations.StepKeepsTakenSetLaw := fun _ _ init window taken stepped =>
  State.takenLaw_iff.mpr (step_keeps (H := fun s => s.initLaw ∧ s.windowLaw)
    (fun _ _ e both => ⟨e.initLaw both.1, e.windowLaw both.2⟩) (fun _ _ e both h => e.takenLaw both.1 both.2 h)
    ⟨init, window⟩ (State.takenLaw_iff.mp taken) stepped)

end Sys2Proof.Machine
end

section
/-! SUPPORT. The pin law (R8, R133): an answer never raises the pinned count, and a SET_CHAIN is checked against it. -/

namespace Sys2Proof.Machine

open Sys2Proof

/-! ## What counts as pinned -/

/-- A chain counts as pinned by its definition, or by the deferred SET_CHAIN on its list (R133). -/
theorem State.countsPinned_iff {s : State} {c : ChainNo} : s.countsPinned c = true ↔ (s.chain c).defn.pinned = true ∨
    ∃ k r, (s.chain c).waiting = .deferred k ∧ s.heldOf k = some r ∧ kindOf r.kind = some .setChain ∧
      r.chainDef.pinned = true := by
  unfold State.countsPinned State.deferredSetChain
  rw [Bool.or_eq_true]
  refine or_congr Iff.rfl ?_
  cases (s.chain c).waiting with
  | reads l => simp
  | deferred k =>
    cases held : s.heldOf k with
    | none => simp [held]
    | some r => by_cases kind : kindOf r.kind = some .setChain <;> simp [held, kind, Option.filter]

/-- `t` has the warm limit of `s` and no chain more that counts as pinned. -/
structure State.FewerPins (s t : State) : Prop where
  geometry : t.run.geometry = s.run.geometry
  run : t.run.state = .running ∨ t.run.state = .draining → s.run.state = .running ∨ s.run.state = .draining
  pins : ∀ c, t.countsPinned c = true → s.countsPinned c = true

theorem State.FewerPins.trans {s t u : State} (h : s.FewerPins t) (k : t.FewerPins u) : s.FewerPins u :=
  ⟨k.geometry.trans h.geometry, fun r => h.run (k.run r), fun c p => h.pins c (k.pins c p)⟩

theorem State.FewerPins.pinLaw {s t : State} (h : s.FewerPins t) (law : s.pinLaw) : t.pinLaw := by
  intro run
  have limit : t.warmLimit = s.warmLimit := by rw [State.warmLimit, h.geometry, State.warmLimit]
  rw [limit]
  exact (List.countP_mono_left fun c _ => h.pins c).trans_lt (law (h.run run))

/-- Work that leaves lists and definitions leaves what counts as pinned. -/
theorem State.FewerPins.of_same {s t : State} (same : s.SameLists t) (defn : ∀ d, (t.chain d).defn = (s.chain d).defn) :
    s.FewerPins t := by
  refine ⟨same.geometry, fun r => same.run ▸ r, fun c p => ?_⟩
  have held (k : SlotNo) : t.heldOf k = s.heldOf k := by rw [State.heldOf, same.taken, State.heldOf]
  rw [State.countsPinned_iff] at p ⊢
  simp only [defn, same.waiting, held] at p
  exact p

theorem State.FewerPins.refl (s : State) : s.FewerPins s := .of_same (.refl s) fun _ => rfl

/-! ## Answers -/

/-- A request held after an answer was held before it. -/
theorem State.heldOf_answer {s : State} {k j : SlotNo} {a : Answer} {r : Request}
    (h : (s.answer k a).heldOf j = some r) : j ≠ k ∧ s.heldOf j = some r := by
  unfold State.heldOf at h ⊢
  rw [State.answer_taken, State.takenBut, List.find?_filter] at h
  by_cases same : j = k
  · subst same
    obtain ⟨x, found, -⟩ := Option.map_eq_some_iff.mp h
    have both := List.find?_some found
    simp at both
  · refine ⟨same, ?_⟩
    rw [← h]
    congr 2
    funext x
    by_cases slot : x.slot = j
    · simp [slot, same]
    · simp [slot]

theorem WaitList.deferred_of_remove {w : WaitList} {k j : SlotNo} (h : w.remove k = .deferred j) : w = .deferred j := by
  cases w with
  | reads l => cases h
  | deferred d =>
    simp only [WaitList.remove] at h
    split at h
    · cases h
    · exact h

theorem State.answer_fewerPins (s : State) (k : SlotNo) (a : Answer) : s.FewerPins (s.answer k a) := by
  have run := (s.answer_works k a).run
  refine ⟨by rw [run], fun r => run ▸ r, fun c p => ?_⟩
  rw [State.countsPinned_iff] at p ⊢
  refine p.imp (fun pinned => ?_) fun ⟨j, r, deferred, held, kind⟩ => ?_
  · rwa [State.chain_answer] at pinned
  · refine ⟨j, r, ?_, (State.heldOf_answer held).2, kind⟩
    rw [State.chain_answer] at deferred
    dsimp only at deferred
    split at deferred
    · exact WaitList.deferred_of_remove deferred
    · exact deferred

theorem State.foldl_fewerPins {α : Type} {f : State → α → State} (step : ∀ (s : State) (a : α), s.FewerPins (f s a))
    (l : List α) (s : State) : s.FewerPins (l.foldl f s) := by
  induction l generalizing s with
  | nil => exact .refl s
  | cons a l ih => exact (step s a).trans (ih _)

theorem State.answerAll_fewerPins (s : State) (ks : List SlotNo) (a : Answer) : s.FewerPins (s.answerAll ks a) :=
  State.foldl_fewerPins (fun t k => t.answer_fewerPins k a) ks s

theorem State.answerReads_fewerPins (s : State) (rd : ReadInProgress) (good : Bool) (judged : State) :
    s.FewerPins (s.answerReads rd good judged) := by
  unfold State.answerReads
  split
  · refine State.foldl_fewerPins (fun t k => ?_) rd.attached s
    split
    · exact t.answer_fewerPins k _
    · exact .refl t
  · split <;> exact s.answerAll_fewerPins _ _

/-! ## A new definition, at once or deferred -/

/-- A chain's own count and that of the others (R133). -/
theorem State.countP_pinned_le {s t : State} {c : ChainNo}
    (others : ∀ d, d ≠ c → t.countsPinned d = true → s.countsPinned d = true) :
    allChains.countP t.countsPinned ≤ s.othersPinned c + (t.countsPinned c).toNat := by
  have split := countP_update (p := t.countsPinned) (q := fun d => d != c && t.countsPinned d) allChains_nodup
    (mem_allChains c) fun d apart => by simp [apart]
  have fewer : allChains.countP (fun d => d != c && t.countsPinned d) ≤ s.othersPinned c := by
    refine List.countP_mono_left fun d _ h => ?_
    simp only [Bool.and_eq_true, bne_iff_ne] at h ⊢
    exact ⟨h.1, others d h.1 h.2⟩
  simp only [bne_self_eq_false, Bool.false_and, Bool.toNat_false] at split
  omega

/-- The others alone are no more than all. -/
theorem State.othersPinned_le (s : State) (c : ChainNo) : s.othersPinned c ≤ allChains.countP s.countsPinned :=
  List.countP_mono_left fun _ _ h => (Bool.and_eq_true _ _ ▸ h : _ ∧ _).2

/-- A chain that comes to count as pinned passed the pin check, or counted before. -/
theorem State.pinLaw_of_checked {s t : State} {c : ChainNo} (law : s.pinLaw) (running : s.run.state = .running)
    (geometry : t.run.geometry = s.run.geometry)
    (others : ∀ d, d ≠ c → t.countsPinned d = true → s.countsPinned d = true)
    (self : t.countsPinned c = true → s.countsPinned c = true ∨ s.othersPinned c < s.warmLimit - 1) : t.pinLaw := by
  intro _
  have limit : t.warmLimit = s.warmLimit := by rw [State.warmLimit, geometry, State.warmLimit]
  have before := law (.inl running)
  have bound := State.countP_pinned_le others
  rw [limit]
  cases counts : t.countsPinned c with
  | false =>
    rw [counts, Bool.toNat_false] at bound
    exact (bound.trans (s.othersPinned_le c)).trans_lt before
  | true =>
    rcases self counts with already | room
    · refine (List.countP_mono_left fun d _ p => ?_).trans_lt before
      by_cases same : d = c
      · rwa [same]
      · exact others d same p
    · rw [counts, Bool.toNat_true] at bound
      omega

/-- A take, once begun, leaves what counts as pinned. -/
theorem State.beginTake_fewerPins {s : State} (h : s.Lists none) (k : SlotNo)
    (begun : (s.beginTake k).Lists (some ⟨k, s.readRequest k⟩)) :
    s.FewerPins (s.beginTake k) := by
  refine ⟨rfl, fun r => r, fun c p => ?_⟩
  rw [State.countsPinned_iff] at p ⊢
  refine p.imp id fun ⟨j, r, deferred, held, kind⟩ => ⟨j, r, deferred, ?_, kind⟩
  obtain ⟨x, taken, rfl, -⟩ := h.listTaken c j
    (by rw [show (s.chain c).waiting = .deferred j from deferred]; exact List.mem_singleton_self j)
  have mem : x ∈ (s.beginTake k).requests.taken := List.mem_append_left _ taken
  rw [State.heldOf_of_mem begun.slotsNodup mem] at held
  rw [State.heldOf_of_mem h.slotsNodup taken, held]

/-- A request that joins a list as a READ_CHAIN, or as the marker of a park, leaves what counts as pinned. -/
theorem State.placed_fewerPins {s : State} {c : ChainNo} {w : WaitList}
    (marker : ∀ k, w = .deferred k → ∀ r, s.heldOf k = some r → kindOf r.kind ≠ some .setChain) :
    s.FewerPins (s.modChain c fun r => { r with waiting := w }) := by
  refine ⟨rfl, fun r => r, fun d p => ?_⟩
  rw [State.countsPinned_iff] at p ⊢
  by_cases same : d = c
  · subst same
    rw [State.chain_modChain, if_pos rfl] at p
    refine p.imp id fun ⟨j, r, deferred, held, kind, _⟩ => absurd kind (marker j deferred r held)
  · rw [State.chain_modChain, if_neg same] at p
    exact p

theorem State.pinLaw_takeSlot {s : State} (h : s.Taken) (law : s.windowLaw) (pins : s.pinLaw)
    (running : s.run.state = .running) {k : SlotNo} (posted : s.slotOwner k = slotPosted) (room : s.hasRoom = true) :
    (s.takeSlot k).pinLaw := by
  have lists := h.lists.beginTake law posted room
  have begun := (State.beginTake_fewerPins h.lists k lists).pinLaw pins
  have held : (s.beginTake k).heldOf k = some (s.readRequest k) :=
    State.heldOf_beginTake (State.posted_not_taken posted h.readsTaken)
  unfold State.takeSlot
  dsimp only
  generalize s.readRequest k = r at *
  have answered {t : State} (fewer : (s.beginTake k).FewerPins t) (a : Answer) : (t.answer k a).pinLaw :=
    (fewer.trans (t.answer_fewerPins k a)).pinLaw begun
  cases kind : kindOf r.kind with
  | none => exact answered (.refl _) _
  | some name =>
    cases name with
    | setChain =>
      dsimp only [State.actSetChain]
      split
      · exact answered (.refl _) _
      · rename_i passes
        obtain ⟨-, pinCheck, -, free⟩ := State.checkSetChain_passes passes
        split
        · refine State.pinLaw_of_checked (c := r.chain) begun running rfl (fun d apart p => ?_) fun p => ?_
          · rw [State.countsPinned_iff] at p ⊢
            rwa [State.chain_deferOn, if_neg apart] at p
          · rw [State.countsPinned_iff, State.chain_deferOn, if_pos rfl] at p
            rcases p with pinned | ⟨j, q, deferred, held', -, pinned⟩
            · exact .inl (State.countsPinned_iff.mpr (.inl pinned))
            · cases deferred
              rw [show ((s.beginTake k).deferOn r.chain k).heldOf k = (s.beginTake k).heldOf k from rfl, held] at held'
              cases held'
              exact .inr (pinCheck pinned)
        · have same := State.reconfigure_sameLists (s.beginTake k) r.chain r.chainDef
          refine State.FewerPins.pinLaw (State.answer_fewerPins _ k _) (State.pinLaw_of_checked (c := r.chain) begun
            running same.geometry (fun d apart p => ?_) fun p => ?_)
          · rw [State.countsPinned_iff] at p ⊢
            have heldSame (j : SlotNo) : ((s.beginTake k).reconfigure r.chain r.chainDef).heldOf j =
                (s.beginTake k).heldOf j := by rw [State.heldOf, same.taken, State.heldOf]
            rw [same.waiting, State.chain_reconfigure_other _ _ apart] at p
            simpa only [heldSame] using p
          · rw [State.countsPinned_iff, State.chain_reconfigure_self] at p
            rcases p with pinned | ⟨j, q, deferred, -⟩
            · exact .inr (pinCheck pinned)
            · rw [show (((s.beginTake k).chain r.chain).chilled .off |>.reconfigured r.chainDef).waiting =
                ((s.beginTake k).chain r.chain).waiting from rfl] at deferred
              rw [deferred] at free
              cases free
    | readChain =>
      dsimp only [State.actReadChain]
      split
      · exact answered (.refl _) _
      · rename_i passes
        obtain ⟨-, -, unmarked⟩ := State.checkReadChain_passes passes
        have pushed : (s.beginTake k).FewerPins ((s.beginTake k).modChain r.chain fun c =>
            { c with waiting := ((s.beginTake k).chain r.chain).waiting.push k }) := by
          refine State.placed_fewerPins fun j deferred => ?_
          cases waiting : ((s.beginTake k).chain r.chain).waiting with
          | reads l => rw [waiting] at deferred; cases deferred
          | deferred i => rw [waiting] at unmarked; cases unmarked
        exact (pushed.trans (.of_same (State.joinDue_sameLists _ _) (State.joinDue_kept _ _).defn)).pinLaw begun
    | parkChain =>
      dsimp only [State.actParkChain]
      split
      · exact answered (.refl _) _
      · split
        · refine State.FewerPins.pinLaw (s := s.beginTake k) (State.placed_fewerPins fun j deferred q held' => ?_) begun
          cases deferred
          rw [held] at held'
          cases held'
          rw [kind]
          simp
        · exact answered (.of_same (State.park_sameLists _ _) (State.park_kept _ _).defn) _
    | setGroup =>
      dsimp only [State.actSetGroup]
      split
      · exact answered (.refl _) _
      · refine answered (.of_same (State.define_sameLists _ r) fun d => ?_) _
        unfold State.define
        dsimp only
        split <;> rfl
    | rearmGroup =>
      dsimp only [State.actRearm]
      split
      · exact answered (.refl _) _
      · exact answered (.of_same (State.setGroup_sameLists _ _ _) fun _ => rfl) _
    | dropGroup =>
      dsimp only [State.actDrop]
      split
      · exact answered (.refl _) _
      · exact answered (.of_same (State.setGroup_sameLists _ _ _) fun _ => rfl) _
    | flush =>
      dsimp only [State.actFlush]
      split
      · exact answered (.refl _) _
      · have path := State.closePage_path (s.beginTake k) .flush
        exact answered (.of_same (State.sameLists_of_recordPath path) (State.kept_of_recordPath path).defn) _

/-! ## Read completion -/

theorem State.filterRead_chains (s : State) (rd : ReadInProgress) : (s.filterRead rd).chains = s.chains := by
  unfold State.filterRead
  dsimp only
  rw [State.evaluateChain_chains]
  rfl

theorem State.judgeRead_defn (s : State) (rd : ReadInProgress) (d : ChainNo) :
    ((s.judgeRead rd).chain d).defn = (s.chain d).defn := by
  unfold State.judgeRead
  split
  · rw [State.chain, State.filterRead_chains]
    exact (s.recover_kept rd.chain).defn d
  · exact (s.badRead_kept rd.chain).defn d

/-- The hand-back installs the definition a deferred SET_CHAIN carries, which counted before (R133, R135). -/
theorem State.handBack_fewerPins (s : State) (c : ChainNo) : s.FewerPins (s.handBack c) := by
  have plain : s.FewerPins (s.handBackPlain c).grantTest :=
    .of_same ((s.handBackPlain_sameLists c).trans (State.grantTest_sameLists _))
      ((s.handBackPlain_kept c).trans (State.grantTest_kept _)).defn
  have tested (t : State) : t.FewerPins t.grantTest := .of_same t.grantTest_sameLists t.grantTest_kept.defn
  unfold State.handBack
  split
  · exact plain
  · rename_i k deferred
    split
    · rename_i r held
      refine State.FewerPins.trans ?_ (tested _)
      unfold State.handBackDeferred
      split
      · rename_i kind
        refine State.FewerPins.trans ?_ (State.answer_fewerPins _ k _)
        have same := s.reconfigure_sameLists c r.chainDef
        refine ⟨same.geometry, fun run => same.run ▸ run, fun d p => ?_⟩
        have heldSame (j : SlotNo) : (s.reconfigure c r.chainDef).heldOf j = s.heldOf j := by
          rw [State.heldOf, same.taken, State.heldOf]
        rw [State.countsPinned_iff] at p ⊢
        simp only [heldSame, same.waiting] at p
        refine p.elim (fun pinned => ?_) .inr
        by_cases his : d = c
        · subst his
          rw [State.chain_reconfigure_self] at pinned
          exact .inr ⟨k, r, deferred, held, kind, pinned⟩
        · rw [State.chain_reconfigure_other s r.chainDef his] at pinned
          exact .inl pinned
      · split
        · exact s.answer_fewerPins k _
        · exact State.FewerPins.trans (.of_same (s.park_sameLists c) (s.park_kept c).defn) (State.answer_fewerPins _ k _)
    · exact plain

theorem State.finishRead_fewerPins (s : State) (rd : ReadInProgress) : s.FewerPins (s.finishRead rd) := by
  have counted : s.FewerPins (s.countRead rd.chain) :=
    .of_same (s.modChain_sameLists _ fun _ => rfl) (s.countRead_kept rd.chain).defn
  have judged := counted.trans (.of_same ((s.countRead rd.chain).judgeRead_sameLists rd)
    ((s.countRead rd.chain).judgeRead_defn rd))
  have handed := judged.trans (State.handBack_fewerPins _ rd.chain)
  have answered := handed.trans (State.answerReads_fewerPins _ rd ((s.countRead rd.chain).readGood rd)
    ((s.countRead rd.chain).judgeRead rd))
  exact ⟨answered.geometry, answered.run, answered.pins⟩

theorem State.drainTest_fewerPins (s : State) : s.FewerPins s.drainTest := by
  obtain ⟨x, ft, w, r, m, p, f, tested, -, still⟩ := s.drainTest_changes
  refine ⟨by rw [tested], fun run => ?_, fun c p => ?_⟩
  · by_contra out
    rw [still fun draining => out (.inr draining)] at run
    exact out run
  · rw [tested] at p
    exact p

/-! ## START and every event -/

/-- An accepted START passed check 7 (R154): fewer chains are pinned than its warm limit. -/
theorem State.pinnedCount_of_startRefusal {s : State} (passes : s.startRefusal = 0) :
    s.pinnedCount < s.headerField 3 := by
  unfold State.startRefusal at passes
  split_ifs at passes with _ _ _ _ _ _ check
  simpa using check

theorem State.pinLaw_acceptStart {s : State} (passes : s.startRefusal = 0) : s.acceptStart.pinLaw := by
  intro _
  have counts (c : ChainNo) : s.acceptStart.countsPinned c = (s.chain c).defn.pinned := by
    simp [State.countsPinned, State.deferredSetChain, State.chain, State.acceptStart, ChainRec.started]
  have limit : s.acceptStart.warmLimit = s.headerField 3 := rfl
  rw [limit, show s.acceptStart.countsPinned = fun c => (s.chain c).defn.pinned from funext counts]
  exact State.pinnedCount_of_startRefusal passes

theorem State.hostByte_fewerPins (s : State) (a : WindowAddr) (b : Byte) : s.FewerPins (s.hostByte a b) := by
  unfold State.hostByte
  split
  · exact ⟨rfl, id, fun _ p => p⟩
  · exact .refl s

theorem State.Event.pinLaw {s t : State} (e : s.Event t) (law : s.windowLaw) (taken : s.Taken) (h : s.pinLaw) :
    t.pinLaw := by
  rcases e.sameLists_or with ⟨same, kept⟩ | ⟨-, -, -, -, run⟩ | ⟨-, -, run, -⟩ | ⟨a, b, rfl⟩ | ⟨rfl, passes⟩ |
    ⟨rfl, running⟩ | ⟨rfl, draining⟩ | rfl | ⟨k, rest, visits, posted, room, rfl⟩ | ⟨rd, reading, rfl⟩
  · exact (State.FewerPins.of_same same kept.defn).pinLaw h
  · rintro (n | n) <;> rcases run with r | r <;> rw [r] at n <;> cases n
  · rintro (n | n) <;> rcases run with r | r <;> rw [r] at n <;> cases n
  · exact (s.hostByte_fewerPins a b).pinLaw h
  · exact State.pinLaw_acceptStart passes
  · have halted : s.FewerPins s.halt := by
      refine ⟨rfl, fun _ => .inl running, fun c p => ?_⟩
      rw [State.countsPinned_iff] at p ⊢
      rw [State.chain_halt, ChainRec.drained_waiting] at p
      rwa [show (s.chain c).drained.defn = (s.chain c).defn by unfold ChainRec.drained; split <;> rfl] at p
    exact (halted.trans (s.halt.answerAll_fewerPins _ _)).pinLaw h
  · rintro (n | n) <;> rw [s.secondStop_run] at n <;> cases n
  · exact s.drainTest_fewerPins.pinLaw h
  · have running : s.run.state = .running := by
      by_contra n
      rw [taken.sweepRunning n] at visits
      cases visits
    have swept : (s.setSweep rest).Taken :=
      State.Lists.taken_of_running { taken.lists with } taken.attachedListed running
    exact State.pinLaw_takeSlot swept law h running posted room
  · have chosen : (s.finishRead rd).FewerPins (s.finishRead rd).readerChoice :=
      .of_same (State.readerChoice_sameLists _) (State.readerChoice_kept _).defn
    exact (((s.finishRead_fewerPins rd).trans chosen).trans (State.drainTest_fewerPins _)).pinLaw h

/-- Settles O59: a definition that pins a chain is checked where it is taken, and nothing else raises the count. -/
theorem stepKeepsPinLaw : Obligations.StepKeepsPinLaw := fun _ _ init window taken pins =>
  step_keeps (H := fun s => s.initLaw ∧ s.windowLaw ∧ s.Taken)
    (fun _ _ e both => ⟨e.initLaw both.1, e.windowLaw both.2.1, e.takenLaw both.1 both.2.1 both.2.2⟩)
    (fun _ _ e both h => e.pinLaw both.2.1 both.2.2 h) ⟨init, window, State.takenLaw_iff.mp taken⟩ pins

end Sys2Proof.Machine
end

section
/-! SUPPORT. What opening, filling and sealing a page write into the window, byte by byte, and the attempt of the Page
Writer as a whole (R97 to R102). -/

namespace Sys2Proof.Machine

open Sys2Proof

/-! ## Bytes placed, opened and sealed -/

section
variable {s : State} (law : s.windowLaw) (p : PageNo)
include law

/-- An opened page: its entry FILLING with no record, its header and its empty places (R99). -/
theorem State.windowRead_openPage (x : Nat) : (s.openPage p).window.read x =
    if pageBase p ≤ x ∧ x < pageBase p + 16 then s.openHeader.getD (x - pageBase p) 0
    else if pageBase p ≤ x ∧ x < pageBase p + 0x100 then 0
    else if entryBase p ≤ x ∧ x < entryBase p + 4 then
      ([pageFilling, 0] ++ halfBytes (lowHalf s.pages.nextSeq)).getD (x - entryBase p) 0
    else s.window.read x := by
  have opened : (s.openPage p).window = ((s.window.writeBytes (entryBase p) ([pageFilling, 0] ++
      halfBytes (lowHalf s.pages.nextSeq))).clear (pageBase p) 0x100).writeBytes (pageBase p) s.openHeader := by
    simp only [State.openPage]
  rw [opened, Memory.read_writeBytes (Memory.wf_clear (Memory.wf_writeBytes law _ _) _ _), s.openHeader_length,
    Memory.read_clear, Memory.read_writeBytes law]
  rfl

/-- A sealed page: cause and seal stamp in its header, its entry SEALED with its count and sequence (R102). -/
theorem State.windowRead_sealPage (cause : SealCause) (current : s.pages.current = some p) (x : Nat) :
    (s.sealPage cause).window.read x =
      if x = entryBase p then pageSealed
      else if entryBase p ≤ x ∧ x < entryBase p + 4 then
        (s.recordCount p :: halfBytes (lowHalf (s.pageSeq p))).getD (x - (entryBase p + 1)) 0
      else if pageBase p + 12 ≤ x ∧ x < pageBase p + 16 then (wordBytes s.run.stamp).getD (x - (pageBase p + 12)) 0
      else if x = pageBase p + 7 then cause.code
      else s.window.read x := by
  have sealed : (s.sealPage cause).window = (((s.window.write (pageBase p + 7) cause.code).writeBytes (pageBase p + 12)
      (wordBytes s.run.stamp)).writeBytes (entryBase p + 1) (s.recordCount p :: halfBytes (lowHalf (s.pageSeq p)))).write
      (entryBase p) pageSealed := by
    unfold State.sealPage
    rw [current]
    rfl
  have stamped := Memory.wf_writeBytes (Memory.wf_write law (pageBase p + 7) cause.code) (pageBase p + 12)
    (wordBytes s.run.stamp)
  have length : (s.recordCount p :: halfBytes (lowHalf (s.pageSeq p))).length = 3 := rfl
  rw [sealed, Memory.read_write (Memory.wf_writeBytes stamped _ _), Memory.read_writeBytes stamped, length,
    Memory.read_writeBytes (Memory.wf_write law _ _), wordBytes_length, Memory.read_write law]
  by_cases first : x = entryBase p
  · rw [if_pos first, if_pos first]
  · rw [if_neg first, if_neg first]
    by_cases entry : entryBase p ≤ x ∧ x < entryBase p + 4
    · rw [if_pos entry, if_pos (by omega)]
    · rw [if_neg entry, if_neg (by omega)]

end

/-- The items of the Page Writer after a seal (R102). -/
theorem State.sealPage_eq {s : State} {p : PageNo} (cause : SealCause) (current : s.pages.current = some p) :
    s.sealPage cause = { s with
      window := (s.sealPage cause).window
      pages := { s.pages with current := none, sealTimer := 0, sealed := s.pages.sealed + 1, lastSealed := s.pageSeq p }
      alerts := { s.alerts with flags := s.alerts.flags ||| 0x01 } } := by
  unfold State.sealPage
  rw [current]
  rfl

/-- After a seal no page is held (R102). -/
theorem State.sealPage_unheld (s : State) (cause : SealCause) : (s.sealPage cause).pages.current = none := by
  cases current : s.pages.current with
  | none => simp [State.sealPage, current]
  | some p => rw [State.sealPage_eq cause current]

/-! ## A page filled with records -/

theorem placeBase_succ (p : PageNo) (k : Nat) : placeBase p (k + 1) = placeBase p k + 16 := by
  unfold placeBase
  omega

theorem placeBase_mono (p : PageNo) {j k : Nat} (h : j ≤ k) : placeBase p j ≤ placeBase p k := by
  unfold placeBase
  omega

/-- The window `w` is `m` with the record `r` in the place behind `n` others in page `p`, and counted in header and entry
(R100). -/
structure Memory.Placed (m w : Memory) (p : PageNo) (n : Nat) (r : Record) : Prop where
  wf : w.wf = true
  place : ∀ j, j < 16 → w.read (placeBase p (n + 1) + j) = r.bytes.getD j 0
  count : w.read (pageBase p + 6) = BitVec.ofNat 8 (n + 1)
  entry : w.read (entryBase p + 1) = BitVec.ofNat 8 (n + 1)
  others : ∀ a, ¬ (placeBase p (n + 1) ≤ a ∧ a < placeBase p (n + 1) + 16) → a ≠ pageBase p + 6 →
    a ≠ entryBase p + 1 → w.read a = m.read a

theorem State.placeRecord_placed {s : State} (law : s.windowLaw) {p : PageNo} {n : Nat} (r : Record)
    (count : s.recordCount p = BitVec.ofNat 8 n) (room : n < 15) :
    ∃ w, s.placeRecord p r = s.setWindow w ∧ s.window.Placed w p n r := by
  have next : s.recordCount p + 1 = BitVec.ofNat 8 (n + 1) := by rw [count]; exact (BitVec.ofNat_add n 1).symm
  have place : (BitVec.ofNat 8 (n + 1)).toNat = n + 1 := by rw [BitVec.toNat_ofNat]; omega
  have entry := entryBase_le p
  have page := pageBase_le p
  have base : placeBase p (n + 1) = pageBase p + (n + 1) * 16 := rfl
  have placed := Memory.wf_writeBytes law (placeBase p (n + 1)) r.bytes
  refine ⟨_, rfl, ?_⟩
  rw [next, place]
  have read (x : Nat) : (((s.window.writeBytes (placeBase p (n + 1)) r.bytes).write (pageBase p + 6)
      (BitVec.ofNat 8 (n + 1))).write (entryBase p + 1) (BitVec.ofNat 8 (n + 1))).read x =
      if x = entryBase p + 1 then BitVec.ofNat 8 (n + 1) else if x = pageBase p + 6 then BitVec.ofNat 8 (n + 1)
      else if placeBase p (n + 1) ≤ x ∧ x < placeBase p (n + 1) + 16 then r.bytes.getD (x - placeBase p (n + 1)) 0
      else s.window.read x := by
    rw [Memory.read_write (Memory.wf_write placed _ _), Memory.read_write placed, Memory.read_writeBytes law,
      r.bytes_length]
  refine ⟨Memory.wf_write (Memory.wf_write placed _ _) _ _, fun j hj => ?_, ?_, ?_, fun a h1 h2 h3 => ?_⟩
  · rw [read, if_neg (by omega), if_neg (by omega), if_pos (by omega), Nat.add_sub_cancel_left]
  · rw [read, if_neg (by omega), if_pos rfl]
  · rw [read, if_pos rfl]
  · rw [read, if_neg h3, if_neg h2, if_neg h1]

/-- The window `w` is `m` with the records `rs` placed into page `p` behind `n` others. -/
structure Memory.Filled (m w : Memory) (p : PageNo) (n : Nat) (rs : List Record) : Prop where
  wf : w.wf = true
  places : ∀ i r, rs[i]? = some r → ∀ j, j < 16 → w.read (placeBase p (n + i + 1) + j) = r.bytes.getD j 0
  count : w.read (pageBase p + 6) = BitVec.ofNat 8 (n + rs.length)
  entry : (rs = [] → m.read (entryBase p + 1) = BitVec.ofNat 8 n) →
    w.read (entryBase p + 1) = BitVec.ofNat 8 (n + rs.length)
  others : ∀ a, ¬ (placeBase p (n + 1) ≤ a ∧ a < placeBase p (n + rs.length + 1)) → a ≠ pageBase p + 6 →
    a ≠ entryBase p + 1 → w.read a = m.read a

/-- No record placed. -/
theorem Memory.Filled.nil {m : Memory} (wf : m.wf = true) {p : PageNo} {n : Nat}
    (count : m.read (pageBase p + 6) = BitVec.ofNat 8 n) : m.Filled m p n [] :=
  ⟨wf, fun i r h => by simp at h, count, fun h => h rfl, fun _ _ _ _ => rfl⟩

/-- One record placed, then the others. -/
theorem Memory.Filled.cons {m v w : Memory} {p : PageNo} {n : Nat} {r : Record} {rs : List Record}
    (first : m.Placed v p n r) (rest : v.Filled w p (n + 1) rs) : m.Filled w p n (r :: rs) := by
  have entry := entryBase_le p
  have page := pageBase_le p
  have length : n + (r :: rs).length = n + 1 + rs.length := by rw [List.length_cons]; omega
  refine ⟨rest.wf, fun i q h j hj => ?_, by rw [length]; exact rest.count, fun _ => ?_, fun a outside header inEntry => ?_⟩
  · cases i with
    | zero =>
      cases h
      rw [Nat.add_zero, rest.others, first.place j hj]
      all_goals
        unfold placeBase
        omega
    | succ i =>
      rw [List.getElem?_cons_succ] at h
      rw [show n + (i + 1) + 1 = n + 1 + i + 1 by omega]
      exact rest.places i q h j hj
  · rw [length]
    exact rest.entry fun _ => first.entry
  · rw [length] at outside
    have next := placeBase_succ p (n + 1)
    have last := placeBase_mono p (show n + 1 + 1 ≤ n + 1 + rs.length + 1 by omega)
    exact (rest.others a (fun later => outside ⟨by omega, later.2⟩) header inEntry).trans
      (first.others a (fun here => outside ⟨here.1, by omega⟩) header inEntry)

/-! ## The attempt with a page held -/

/-- The head goes into a page with room for another after it (R82, R100). -/
theorem State.takeHead_of_room {s : State} (law : s.windowLaw) {p : PageNo} {n : Nat} (r : Record)
    (count : s.recordCount p = BitVec.ofNat 8 n) (room : n < 14) :
    ∃ w, s.window.Placed w p n r ∧ s.takeHead p r = (s.setWindow w).removeHead := by
  obtain ⟨w, same, placed⟩ := State.placeRecord_placed law r count (by omega)
  obtain ⟨q, removed⟩ := (s.setWindow w).removeHead_changes
  have notFull : (s.setWindow w).removeHead.recordCount p ≠ 15 := by
    rw [removed, State.recordCount]
    intro e
    have := congrArg BitVec.toNat (placed.count.symm.trans e)
    rw [BitVec.toNat_ofNat, show (15 : Byte).toNat = 15 from rfl] at this
    omega
  refine ⟨w, placed, ?_⟩
  unfold State.takeHead
  rw [same]
  exact if_neg notFull

/-- With a page held and room for every record waiting, and no losses pending, all of them go into it (R81, R100). -/
theorem State.pumpLoop_fills {s : State} {p : PageNo} {n : Nat} {rs : List Record} (fuel : Nat) (law : s.windowLaw)
    (current : s.pages.current = some p) (count : s.recordCount p = BitVec.ofNat 8 n) (queue : s.records.queue = rs)
    (settled : s.records.overrun = 0) (room : n + rs.length ≤ 14) (enough : rs.length ≤ fuel) :
    ∃ w, s.window.Filled w p n rs ∧ s.pumpLoop fuel = { s with window := w, records := { s.records with
      queue := [], written := s.records.written + BitVec.ofNat 32 rs.length } } := by
  induction rs generalizing s n fuel with
  | nil =>
    refine ⟨s.window, .nil law count, ?_⟩
    have same : s.pumpLoop fuel = s := by
      cases fuel with
      | zero => rfl
      | succ fuel => simp [State.pumpLoop, queue]
    have none : s.records.written + BitVec.ofNat 32 ([] : List Record).length = s.records.written := BitVec.add_zero _
    rw [same, none, ← queue]
  | cons r rs ih =>
    cases fuel with
    | zero => cases enough
    | succ fuel =>
      rw [List.length_cons] at room enough
      obtain ⟨v, placed, taken⟩ := State.takeHead_of_room law r count (by omega)
      rw [State.removeHead_of_none (s := s.setWindow v) settled] at taken
      have unfolded : s.pumpLoop (fuel + 1) = (s.takeHead p r).pumpLoop fuel := by
        rw [State.pumpLoop, queue, current]
      rw [unfolded, taken]
      obtain ⟨w, filled, rest⟩ := ih (s := { s.setWindow v with records := { s.records with
        queue := s.records.queue.tail, written := s.records.written + 1 } }) (n := n + 1) fuel placed.wf current
        placed.count (by rw [queue]; rfl) settled (by omega) (by omega)
      have counted : s.records.written + 1 + BitVec.ofNat 32 rs.length =
          s.records.written + BitVec.ofNat 32 (r :: rs).length := by
        rw [List.length_cons, BitVec.ofNat_add, BitVec.add_assoc, BitVec.add_comm 1]
        rfl
      refine ⟨w, .cons placed filled, ?_⟩
      rw [← counted]
      exact rest

/-- The 15th record seals its page FULL (R100, R102). -/
theorem State.pump_seals {s : State} (law : s.windowLaw) {p : PageNo} {r : Record} (current : s.pages.current = some p)
    (count : s.recordCount p = BitVec.ofNat 8 14) (queue : s.records.queue = [r]) (settled : s.records.overrun = 0) :
    ∃ w, s.window.Placed w p 14 r ∧ s.pump = State.sealPage { s with window := w, records := { s.records with
      queue := [], written := s.records.written + 1 } } .full := by
  obtain ⟨w, same, placed⟩ := State.placeRecord_placed law r count (by omega)
  refine ⟨w, placed, ?_⟩
  have removed : (s.setWindow w).removeHead = { s with window := w, records := { s.records with
      queue := [], written := s.records.written + 1 } } := by
    rw [State.removeHead_of_none (s := s.setWindow w) settled, State.setWindow_records, queue]
    rfl
  have taken : s.takeHead p r = State.sealPage { s with window := w, records := { s.records with
      queue := [], written := s.records.written + 1 } } .full := by
    unfold State.takeHead
    rw [same, removed]
    exact if_pos placed.count
  have done : (s.takeHead p r).records.queue = [] := by rw [taken, State.sealPage_records]
  have started : s.pump = (s.takeHead p r).pumpLoop (2 * s.records.queue.length + 3) := by
    rw [State.pump, State.pumpLoop]
    simp only [queue, current]
  rw [started, State.pumpLoop, done]
  exact taken

/-! ## The attempt with no page held -/

/-- What waits when an attempt is made, an OVERRUN record behind it if losses are pending (R84). -/
def State.toWrite (s : State) : List Record :=
  s.records.queue ++ if s.records.overrun = 0 then [] else [s.overrunRecord]

/-- The Record Unit's items when everything that waits has been written (R82, R84). -/
def State.drainedRecords (s : State) : RecordUnit :=
  { s.records with
    queue := [], overrun := 0, written := s.records.written + BitVec.ofNat 32 s.toWrite.length
    seq := if s.records.overrun = 0 then s.records.seq else s.records.seq + 1
    generated := if s.records.overrun = 0 then s.records.generated else s.records.generated + 1 }

/-- With no page held and a FREE one found, an attempt opens it and everything that waits goes into it (R97, R99). -/
theorem State.pump_opens {s : State} {p : PageNo} (law : s.windowLaw) (unheld : s.pages.current = none)
    (found : s.searchPage = some p) (waits : s.records.queue ≠ []) (room : s.records.queue.length ≤ 12) :
    ∃ w, (s.openPage p).window.Filled w p 0 s.toWrite ∧
      s.pump = { s.openPage p with window := w, records := s.drainedRecords } := by
  obtain ⟨r, rest, queue⟩ := List.exists_cons_of_ne_nil waits
  have opened : s.pump = (s.openPage p).pumpLoop (2 * s.records.queue.length + 3) := by
    rw [State.pump, State.pumpLoop, queue, unheld, found]
  have openLaw : (s.openPage p).windowLaw := State.windowLaw_of_recordPath (s.openPage_path p) law
  have base := pageBase_le p
  have count : (s.openPage p).recordCount p = BitVec.ofNat 8 0 := by
    rw [State.recordCount, State.windowRead_openPage law, if_pos (by omega), Nat.add_sub_cancel_left]
    rfl
  rw [opened]
  by_cases settled : s.records.overrun = 0
  · have all : s.toWrite = s.records.queue := by rw [State.toWrite, if_pos settled, List.append_nil]
    obtain ⟨w, filled, written⟩ := State.pumpLoop_fills (2 * s.records.queue.length + 3) openLaw
      (by rw [State.openPage_pages]) count rfl settled (by rw [State.openPage_records]; omega)
      (by rw [State.openPage_records]; omega)
    refine ⟨w, all ▸ filled, written.trans ?_⟩
    rw [State.drainedRecords, all, if_pos settled, if_pos settled, ← settled]
    rfl
  · have all : s.toWrite = r :: (rest ++ [s.overrunRecord]) := by
      rw [State.toWrite, if_neg settled, queue, List.cons_append]
    obtain ⟨v, placed, taken⟩ := State.takeHead_of_room openLaw r count (by omega)
    rw [State.removeHead_of_pending (s := (s.openPage p).setWindow v) settled] at taken
    have unfolded : (s.openPage p).pumpLoop (2 * s.records.queue.length + 3) =
        ((s.openPage p).takeHead p r).pumpLoop (2 * s.records.queue.length + 2) := by
      rw [State.pumpLoop, State.openPage_records, queue, State.openPage_pages]
    rw [unfolded, taken]
    rw [queue, List.length_cons] at room
    have tail : s.records.queue.tail ++ [s.overrunRecord] = rest ++ [s.overrunRecord] := by rw [queue]; rfl
    have length : (rest ++ [s.overrunRecord]).length = rest.length + 1 := by rw [List.length_append]; rfl
    obtain ⟨w, filled, written⟩ := State.pumpLoop_fills (s := { (s.openPage p).setWindow v with
        records := { s.records with
          queue := s.records.queue.tail ++ [s.overrunRecord], seq := s.records.seq + 1
          written := s.records.written + 1, generated := s.records.generated + 1, overrun := 0 } })
      (p := p) (n := 0 + 1) (rs := rest ++ [s.overrunRecord]) (2 * s.records.queue.length + 2) placed.wf rfl placed.count
      tail rfl (by rw [length]; omega) (by rw [length, queue, List.length_cons]; omega)
    have counted : s.records.written + 1 + BitVec.ofNat 32 (rest ++ [s.overrunRecord]).length =
        s.records.written + BitVec.ofNat 32 s.toWrite.length := by
      rw [all, List.length_cons, BitVec.ofNat_add, BitVec.add_assoc, BitVec.add_comm 1]
      rfl
    refine ⟨w, all ▸ .cons placed filled, ?_⟩
    rw [State.drainedRecords, ← counted, if_neg settled, if_neg settled]
    exact written

end Sys2Proof.Machine
end

section
/-! SUPPORT. The law of the trip queue and of the current page (R81, R85, R100), event by event. -/

namespace Sys2Proof.Machine

open Sys2Proof

/-- With no page held the law speaks of the queue alone. -/
theorem State.tripQueueLaw_of_unheld {s : State} (unheld : s.pages.current = none) (room : s.records.queue.length ≤ 12)
    (full : s.records.overrun ≠ 0 → s.records.queue.length = 12) : s.tripQueueLaw :=
  ⟨room, full, fun p held => by rw [unheld] at held; cases held⟩

/-- With a page held the queue is empty and no losses are pending. -/
theorem State.tripQueueLaw_of_held {s : State} {p : PageNo} {n : Nat} (held : s.pages.current = some p)
    (empty : s.records.queue = []) (settled : s.records.overrun = 0) (count : s.recordCount p = BitVec.ofNat 8 n)
    (low : 1 ≤ n) (high : n ≤ 14) : s.tripQueueLaw := by
  refine ⟨by rw [empty]; exact Nat.zero_le _, fun pending => absurd settled pending, fun q current => ?_⟩
  rw [held] at current
  cases current
  have value : (s.recordCount p).toNat = n := by rw [count, BitVec.toNat_ofNat]; omega
  exact ⟨empty, by omega, by omega⟩

/-- With a page held no losses are pending. -/
theorem State.settled_of_held {s : State} (h : s.tripQueueLaw) {p : PageNo} (held : s.pages.current = some p) :
    s.records.overrun = 0 := by
  by_contra pending
  have full := h.2.1 pending
  rw [(h.2.2 p held).1] at full
  cases full

/-- An attempt with no page held (R97): nothing without a FREE page or a record, else everything that waits is written. -/
theorem State.tripQueueLaw_pump {s : State} (law : s.windowLaw) (unheld : s.pages.current = none)
    (room : s.records.queue.length ≤ 12) (full : s.records.overrun ≠ 0 → s.records.queue.length = 12) :
    s.pump.tripQueueLaw := by
  by_cases waits : s.records.queue = []
  · rw [State.pump_of_empty waits]
    exact State.tripQueueLaw_of_unheld unheld room full
  · cases found : s.searchPage with
    | none =>
      rw [State.pump_of_noPage unheld found]
      exact State.tripQueueLaw_of_unheld unheld room full
    | some p =>
      obtain ⟨w, filled, opened⟩ := State.pump_opens law unheld found waits room
      have length : s.toWrite.length = s.records.queue.length + if s.records.overrun = 0 then 0 else 1 := by
        rw [State.toWrite, List.length_append]
        split <;> rfl
      have some : 1 ≤ s.records.queue.length := List.length_pos_of_ne_nil waits
      rw [opened]
      refine State.tripQueueLaw_of_held (p := p) (n := 0 + s.toWrite.length) ?_ rfl rfl filled.count ?_ ?_
      · rw [State.openPage_pages]
      · omega
      · rw [length]
        split <;> omega

/-- An append while a page is held or none is FREE, or one that opens a page (R79, R81). -/
theorem State.tripQueueLaw_append {s : State} (law : s.windowLaw) (h : s.tripQueueLaw)
    (room : s.records.queue.length < 12) (r : Record) : (s.appendRecord r).pump.tripQueueLaw := by
  have settled : s.records.overrun = 0 := by
    by_contra pending
    exact absurd (h.2.1 pending) (Nat.ne_of_lt room)
  cases current : s.pages.current with
  | none =>
    refine State.tripQueueLaw_pump law current ?_ fun pending => absurd settled pending
    rw [State.appendRecord_records, List.length_append]
    exact room
  | some p =>
    obtain ⟨empty, low, high⟩ := h.2.2 p current
    have count : s.recordCount p = BitVec.ofNat 8 (s.recordCount p).toNat := by simp
    have queue : (s.appendRecord r).records.queue = [{ r with seq := s.records.seq }] := by
      rw [State.appendRecord_records, empty]
      rfl
    by_cases last : (s.recordCount p).toNat = 14
    · rw [last] at count
      obtain ⟨w, -, sealed⟩ := State.pump_seals (s := s.appendRecord r) law current count queue settled
      rw [sealed]
      refine State.tripQueueLaw_of_unheld (State.sealPage_unheld _ _) ?_ fun pending => absurd settled ?_
      · rw [State.sealPage_records]
        exact Nat.zero_le _
      · rwa [State.sealPage_records] at pending
    · obtain ⟨w, filled, placed⟩ := State.pumpLoop_fills (s := s.appendRecord r)
        (2 * (s.appendRecord r).records.queue.length + 4) law current count queue settled
        (by rw [List.length_singleton]; omega) (by rw [List.length_singleton]; omega)
      rw [State.pump, placed]
      exact State.tripQueueLaw_of_held (p := p) current rfl settled filled.count (by rw [List.length_singleton]; omega)
        (by rw [List.length_singleton]; omega)

/-- The law sees the Record Unit, the page held and its record count. -/
theorem State.tripQueueLaw_of_same {s t : State} (h : s.tripQueueLaw) (records : t.records = s.records)
    (current : t.pages.current = s.pages.current) (count : ∀ p, t.recordCount p = s.recordCount p) : t.tripQueueLaw := by
  refine ⟨by rw [records]; exact h.1, by rw [records]; exact h.2.1, fun p held => ?_⟩
  rw [records, count]
  exact h.2.2 p (current ▸ held)

theorem State.tripQueueLaw_generate {s : State} (law : s.windowLaw) (h : s.tripQueueLaw) (r : Record) :
    (s.generate r).tripQueueLaw := by
  have counted : (s.announced r).records = { s.records with generated := s.records.generated + 1 } :=
    s.announced_records r
  rcases Nat.lt_or_ge s.records.queue.length 12 with room | full
  · rw [State.generate_of_room room]
    have announced : (s.announced r).tripQueueLaw := by
      refine ⟨by rw [counted]; exact h.1, by rw [counted]; exact h.2.1, fun p held => ?_⟩
      rw [State.announced_pages] at held
      rw [counted, State.recordCount, State.announced_window]
      exact h.2.2 p held
    exact State.tripQueueLaw_append (by rw [State.windowLaw, State.announced_window]; exact law) announced
      (by rw [counted]; exact room) r
  · rw [State.generate_of_full full]
    have queue : (s.announced r).dropRecord.records.queue = s.records.queue := by
      rw [State.dropRecord_records, counted]
    obtain ⟨q, f, dropped, -⟩ := (s.announced r).dropRecord_changes
    refine ⟨by rw [queue]; exact h.1, fun _ => by rw [queue]; exact Nat.le_antisymm h.1 full, fun p held => ?_⟩
    rw [dropped, State.announced_pages] at held
    rw [(h.2.2 p held).1] at full
    cases full

theorem State.tripQueueLaw_closePage {s : State} (law : s.windowLaw) (h : s.tripQueueLaw) (cause : SealCause) :
    (s.closePage cause).tripQueueLaw := by
  have sealedLaw := State.windowLaw_of_recordPath (s.sealPage_path cause) law
  have records := s.sealPage_records cause
  exact State.tripQueueLaw_pump sealedLaw (s.sealPage_unheld cause) (by rw [records]; exact h.1)
    (by rw [records]; exact h.2.1)

/-- An answer writes no page. -/
theorem State.recordCount_answer {s : State} (law : s.windowLaw) (k : SlotNo) (a : Answer) (p : PageNo) :
    (s.answer k a).recordCount p = s.recordCount p := by
  have slot := slotBase_le k
  have page := pageBase_le p
  show (s.answeredWindow k a).read (pageBase p + 6) = s.window.read (pageBase p + 6)
  rw [State.answeredWindow_read s k a law, if_neg (by omega), if_neg (by omega)]

theorem State.tripQueueLaw_works {s t : State} (works : s.Works t) (law : s.windowLaw) (h : s.tripQueueLaw) :
    t.tripQueueLaw := by
  refine (works.keep (P := fun s => s.windowLaw ∧ s.tripQueueLaw) (fun s t work both => ?_) ⟨law, h⟩).2
  obtain ⟨law, h⟩ := both
  refine ⟨State.windowLaw_of_works (.single work) law, ?_⟩
  cases work with
  | side => exact h
  | answer k a =>
    obtain ⟨ch, answered⟩ := s.answer_changes k a
    exact State.tripQueueLaw_of_same h (by rw [answered]) (by rw [answered]) (State.recordCount_answer law k a)
  | generate r => exact State.tripQueueLaw_generate law h r
  | closePage cause => exact State.tripQueueLaw_closePage law h cause

theorem State.tripQueueLaw_pageWriterWork {s : State} (law : s.windowLaw) (h : s.tripQueueLaw) :
    s.pageWriterWork.tripQueueLaw := by
  unfold State.pageWriterWork
  dsimp only
  split
  · unfold State.advanceSealTimer
    dsimp only
    split
    · split
      · refine State.tripQueueLaw_closePage ?_ ?_ .timer
        · exact law
        · exact h
      · exact h
    · exact h
  · rename_i unheld
    exact State.tripQueueLaw_pump (s := s.setFrame _) law (by simpa using unheld) h.1 h.2.1

theorem State.tripQueueLaw_drainEnd {s : State} (law : s.windowLaw) (h : s.tripQueueLaw) : s.drainEnd.tripQueueLaw :=
  State.tripQueueLaw_closePage law h .stop

theorem State.windowLaw_pageWriterWork {s : State} (law : s.windowLaw) : s.pageWriterWork.windowLaw :=
  State.windowLaw_of_recordPath s.pageWriterWork_path law

theorem State.tripQueueLaw_drainTest {s : State} (law : s.windowLaw) (h : s.tripQueueLaw) :
    s.drainTest.tripQueueLaw := by
  unfold State.drainTest State.finishPageWork
  split
  · split
    · exact State.tripQueueLaw_drainEnd (State.windowLaw_pageWriterWork law) (State.tripQueueLaw_pageWriterWork law h)
    · exact State.tripQueueLaw_drainEnd law h
  · exact h

/-- The filter lets no host byte into a page (R178). -/
theorem filterAccepts_page {a : Nat} (low : 0x700 ≤ a) (high : a < 0x2F00) (held b : Byte) :
    filterAccepts a held b = false := by
  unfold filterAccepts
  rw [if_neg (by omega), if_neg (by omega), if_neg (by omega), if_neg (by omega), if_neg (by omega), if_neg (by omega),
    if_neg (by omega), if_pos high]

theorem State.recordCount_hostByte {s : State} (law : s.windowLaw) (a : WindowAddr) (b : Byte) (p : PageNo) :
    (s.hostByte a b).recordCount p = s.recordCount p := by
  have page := pageBase_le p
  unfold State.hostByte
  split
  · rename_i accepted
    simp only [Bool.and_eq_true] at accepted
    show (s.window.write a.toNat b).read (pageBase p + 6) = s.window.read (pageBase p + 6)
    rw [Memory.read_write law]
    split
    · rename_i same
      rw [← same, filterAccepts_page (by omega) (by omega)] at accepted
      exact absurd accepted.2 Bool.false_ne_true
    · rfl
  · rfl

/-- A take, once begun, has written no page. -/
theorem State.recordCount_beginTake {s : State} (law : s.windowLaw) (k : SlotNo) (p : PageNo) :
    (s.beginTake k).recordCount p = s.recordCount p := by
  have slot := slotBase_le k
  have page := pageBase_le p
  show (s.window.write (slotBase k) slotTaken).read (pageBase p + 6) = s.window.read (pageBase p + 6)
  rw [Memory.read_write law, if_neg (by omega)]

theorem State.Event.tripQueueLaw {s t : State} (e : s.Event t) (init : s.initLaw) (law : s.windowLaw)
    (h : s.tripQueueLaw) : t.tripQueueLaw := by
  obtain ⟨atReset, -⟩ := State.initLaw_iff.mp init
  cases e with
  | hardReset | softReset => exact State.tripQueueLaw_of_reset rfl rfl
  | initEnd isInit => exact State.tripQueueLaw_of_reset (atReset isInit).records (atReset isInit).pages
  | hostByte a b =>
    refine State.tripQueueLaw_of_same h ?_ ?_ (State.recordCount_hostByte law a b)
    all_goals
      unfold State.hostByte
      split <;> rfl
  | acceptStart => exact State.tripQueueLaw_of_unheld rfl (Nat.zero_le _) fun pending => absurd rfl pending
  | enterDraining => exact State.tripQueueLaw_works (State.answerAll_works s.halt _ _) law h
  | secondStop =>
    have works := s.abandonRead_works (Answer.plain .stopped)
    have abandoned := State.tripQueueLaw_works works law h
    have discarded : (s.abandonRead (Answer.plain .stopped)).discardQueue.tripQueueLaw := by
      refine ⟨Nat.zero_le _, fun pending => absurd rfl pending, fun p held => ?_⟩
      exact ⟨rfl, (abandoned.2.2 p held).2⟩
    exact State.tripQueueLaw_drainEnd (s := State.discardQueue _) (State.windowLaw_of_works works law :) discarded
  | takeExpiry => exact State.tripQueueLaw_works (State.periodExpired_works (s.setFrame _) _) law h
  | examine c => exact State.tripQueueLaw_works (s.examine_works c) law h
  | pageWriterWork => exact State.tripQueueLaw_pageWriterWork law h
  | drainTest => exact State.tripQueueLaw_drainTest law h
  | @take k rest =>
    have begunLaw : ((s.setSweep rest).beginTake k).windowLaw := Memory.wf_write law _ _
    have begun : ((s.setSweep rest).beginTake k).tripQueueLaw :=
      State.tripQueueLaw_of_same h rfl rfl (State.recordCount_beginTake law k)
    exact State.tripQueueLaw_works (State.takeSlot_works _ k) begunLaw begun
  | @settled c => exact State.tripQueueLaw_works (State.readerChoice_works _) law h
  | grant granted => exact State.tripQueueLaw_works (State.works_of_granted (State.grantOne_changes granted)) law h
  | readerChoice => exact State.tripQueueLaw_works s.readerChoice_works law h
  | @completion rd =>
    have works := (s.finishRead_works rd).trans (State.readerChoice_works _)
    exact State.tripQueueLaw_drainTest (State.windowLaw_of_works works law) (State.tripQueueLaw_works works law h)
  | overrunRecord room pending => exact absurd (h.2.1 pending) (Nat.ne_of_lt room)
  | tick =>
    obtain ⟨n, q, ticked⟩ := s.tick_changes
    rw [ticked]
    exact h
  | nresetRise | outside | clearFlags | setEnables | refuseStart | openRunning | openDraining | dropCoolDowns | passSweep
  | staleCompletion | bit => exact h

/-- Settles O55: a page once opened takes every record waiting, at most 13 with the OVERRUN record, and the 15th record
of a page seals it. -/
theorem stepKeepsTripQueueLaw : Obligations.StepKeepsTripQueueLaw := fun _ _ init window trip =>
  step_keeps (H := fun s => s.initLaw ∧ s.windowLaw)
    (fun _ _ e both => ⟨e.initLaw both.1, e.windowLaw both.2⟩) (fun _ _ e both h => e.tripQueueLaw both.1 both.2 h)
    ⟨init, window⟩ trip

end Sys2Proof.Machine
end

section
/-! SUPPORT. The statements about pages: the search, a record that reaches its page, and the acquisition (R81, R97 to
R100). -/

namespace Sys2Proof.Machine

open Sys2Proof

/-! ## Fields read from their bytes -/

theorem Memory.readBytes_eq {m : Memory} {a n : Nat} {bs : List Byte} (length : bs.length = n)
    (bytes : ∀ j, j < n → m.read (a + j) = bs.getD j 0) : m.readBytes a n = bs := by
  refine List.ext_getElem (by simp [Memory.readBytes, length]) fun j h _ => ?_
  have less : j < n := by simpa [Memory.readBytes] using h
  simp only [Memory.readBytes, List.getElem_map, List.getElem_range, bytes j less]
  rw [List.getD_eq_getElem?_getD, List.getElem?_eq_getElem (length ▸ less), Option.getD_some]

/-- A 32-bit field of its bytes. -/
theorem Memory.word_eq {m : Memory} {a : Nat} {v : Word} (bytes : ∀ j, j < 4 → m.read (a + j) = (wordBytes v).getD j 0) :
    m.word a = v := by
  have b0 := bytes 0 (by omega)
  have b1 := bytes 1 (by omega)
  have b2 := bytes 2 (by omega)
  have b3 := bytes 3 (by omega)
  rw [Nat.add_zero] at b0
  rw [Memory.word, b0, b1, b2, b3]
  exact wordOf_bytes v

/-- A 16-bit field of its bytes. -/
theorem Memory.half_eq {m : Memory} {a : Nat} {v : Half} (bytes : ∀ j, j < 2 → m.read (a + j) = (halfBytes v).getD j 0) :
    m.half a = v := by
  have b0 := bytes 0 (by omega)
  have b1 := bytes 1 (by omega)
  rw [Nat.add_zero] at b0
  rw [Memory.half, b0, b1]
  exact halfOf_bytes v

/-- A 32-bit field of bytes that stand. -/
theorem Memory.word_congr {m w : Memory} {a : Nat} (bytes : ∀ j, j < 4 → w.read (a + j) = m.read (a + j)) :
    w.word a = m.word a := by
  have b0 := bytes 0 (by omega)
  rw [Nat.add_zero] at b0
  rw [Memory.word, b0, bytes 1 (by omega), bytes 2 (by omega), bytes 3 (by omega), Memory.word]

/-- A 16-bit field of bytes that stand. -/
theorem Memory.half_congr {m w : Memory} {a : Nat} (bytes : ∀ j, j < 2 → w.read (a + j) = m.read (a + j)) :
    w.half a = m.half a := by
  have b0 := bytes 0 (by omega)
  rw [Nat.add_zero] at b0
  rw [Memory.half, b0, bytes 1 (by omega), Memory.half]

/-! ## The search -/

/-- What the search looks at, one by one. -/
theorem State.searchPage_eq (s : State) : s.searchPage =
    ((List.range s.pageCount).map fun i => Fin.ofNat 40 ((s.pages.cursor.val + 1 + i) % s.pageCount)).find?
      fun p => s.pageOwner p == pageFree := by
  unfold State.searchPage cyclicAfter
  rw [List.map_map]
  rfl

/-- Settles O40: the search is the first hit in the list of pages in cyclic order. -/
theorem searchFindsFirstFreeAfterCursor : Obligations.SearchFindsFirstFreeAfterCursor := by
  intro s p
  rw [State.searchPage_eq, List.find?_eq_some_iff_getElem, List.find?_eq_none]
  constructor
  · constructor
    · rintro ⟨free, i, inside, at_i, earlier⟩
      simp only [List.length_map, List.length_range] at inside
      simp only [List.getElem_map, List.getElem_range] at at_i earlier
      exact ⟨i, inside, at_i.symm, by simpa using free, fun j less => by simpa using earlier j less⟩
    · rintro ⟨i, inside, rfl, free, earlier⟩
      refine ⟨by simpa using free, i, by simpa using inside, by simp, fun j less => ?_⟩
      simpa using earlier j less
  · simp

/-! ## Facts about a filled page -/

section
variable {m w : Memory} {p : PageNo} {n : Nat} {rs : List Record} (h : m.Filled w p n rs)
include h

theorem Memory.Filled.record {i : Nat} {r : Record} (at_i : rs[i]? = some r) :
    w.readBytes (placeBase p (n + i + 1)) 16 = r.bytes :=
  Memory.readBytes_eq r.bytes_length (h.places i r at_i)

/-- Outside the page and its entry nothing is written. -/
theorem Memory.Filled.outside (room : n + rs.length ≤ 15) {a : Nat} (entry : ¬ (entryBase p ≤ a ∧ a < entryBase p + 4))
    (page : ¬ (pageBase p ≤ a ∧ a < pageBase p + 0x100)) : w.read a = m.read a := by
  have first : placeBase p (n + 1) ≤ a → pageBase p ≤ a := by unfold placeBase; omega
  have last : placeBase p (n + rs.length + 1) ≤ pageBase p + 0x100 := by unfold placeBase; omega
  exact h.others a (fun inside => page ⟨first inside.1, by omega⟩) (fun e => page (by omega)) fun e => entry (by omega)

/-- The header is written only at its record count. -/
theorem Memory.Filled.header {j : Nat} (inside : j < 16) (notCount : j ≠ 6) :
    w.read (pageBase p + j) = m.read (pageBase p + j) := by
  have entry := entryBase_le p
  have page := pageBase_le p
  refine h.others _ (fun places => ?_) (by omega) (by omega)
  have first : pageBase p + 16 ≤ placeBase p (n + 1) := by unfold placeBase; omega
  omega

/-- The entry is written only at its record count. -/
theorem Memory.Filled.entry_other {a : Nat} (inside : entryBase p ≤ a ∧ a < entryBase p + 4) (notCount : a ≠ entryBase p + 1) :
    w.read a = m.read a := by
  have entry := entryBase_le p
  have page := pageBase_le p
  have first : pageBase p ≤ placeBase p (n + 1) := by unfold placeBase; omega
  exact h.others _ (fun places => by omega) (by omega) notCount

end

/-! ## An opened page, filled -/

/-- What an attempt that opens page `p` leaves in the window `w` (R99, R100), before any seal. -/
structure State.Opened (s : State) (w : Memory) (p : PageNo) : Prop where
  wf : w.wf = true
  owner : w.read (entryBase p) = pageFilling
  entryCount : w.read (entryBase p + 1) = BitVec.ofNat 8 s.toWrite.length
  entrySeq : w.half (entryBase p + 2) = lowHalf s.pages.nextSeq
  seq : w.word (pageBase p) = s.pages.nextSeq
  first : w.half (pageBase p + 4) = s.headSeq
  count : w.read (pageBase p + 6) = BitVec.ofNat 8 s.toWrite.length
  cause : w.read (pageBase p + 7) = 0
  opened : w.word (pageBase p + 8) = s.run.stamp
  sealedAt : w.word (pageBase p + 12) = 0
  records : ∀ i r, s.toWrite[i]? = some r → w.readBytes (placeBase p (i + 1)) 16 = r.bytes
  empty : ∀ a, placeBase p (s.toWrite.length + 1) ≤ a → a < pageBase p + 0x100 → w.read a = 0
  others : ∀ a, ¬ (entryBase p ≤ a ∧ a < entryBase p + 4) → ¬ (pageBase p ≤ a ∧ a < pageBase p + 0x100) →
    w.read a = s.window.read a

theorem State.toWrite_length_le {s : State} (room : s.records.queue.length ≤ 12) : s.toWrite.length ≤ 13 := by
  rw [State.toWrite, List.length_append]
  split <;> simp only [List.length_nil, List.length_singleton] <;> omega

theorem State.opened_of_filled {s : State} {w : Memory} {p : PageNo} (law : s.windowLaw) (room : s.toWrite.length ≤ 13)
    (filled : (s.openPage p).window.Filled w p 0 s.toWrite) : s.Opened w p := by
  have entry := entryBase_le p
  have page := pageBase_le p
  have base := State.windowRead_openPage law p
  have header {j : Nat} (inside : j < 16) (notCount : j ≠ 6) : w.read (pageBase p + j) = s.openHeader.getD j 0 := by
    rw [filled.header inside notCount, base, if_pos (by omega), Nat.add_sub_cancel_left]
  have inEntry {j : Nat} (inside : j < 4) : (s.openPage p).window.read (entryBase p + j) =
      ([pageFilling, 0] ++ halfBytes (lowHalf s.pages.nextSeq)).getD j 0 := by
    rw [base, if_neg (by omega), if_neg (by omega), if_pos (by omega), Nat.add_sub_cancel_left]
  have entryByte {j : Nat} (inside : j < 4) (notCount : j ≠ 1) : w.read (entryBase p + j) =
      ([pageFilling, 0] ++ halfBytes (lowHalf s.pages.nextSeq)).getD j 0 := by
    rw [filled.entry_other (by omega) (by omega), inEntry inside]
  have count : (0 : Nat) + s.toWrite.length = s.toWrite.length := Nat.zero_add _
  refine ⟨filled.wf, entryByte (j := 0) (by omega) (by omega), ?_, ?_, ?_, ?_, ?_, header (j := 7) (by omega) (by omega), ?_,
    ?_, fun i r at_i => ?_, fun a low high => ?_, fun a notEntry notPage => ?_⟩
  · rw [filled.entry fun _ => inEntry (j := 1) (by omega), count]
  · refine Memory.half_eq fun j less => ?_
    rw [Nat.add_assoc, entryByte (by omega) (by omega)]
    interval_cases j <;> rfl
  · refine Memory.word_eq fun j less => ?_
    rw [header (by omega) (by omega)]
    interval_cases j <;> rfl
  · refine Memory.half_eq fun j less => ?_
    rw [Nat.add_assoc, header (by omega) (by omega)]
    interval_cases j <;> rfl
  · rw [filled.count, count]
  · refine Memory.word_eq fun j less => ?_
    rw [Nat.add_assoc, header (by omega) (by omega)]
    interval_cases j <;> rfl
  · refine Memory.word_eq fun j less => ?_
    rw [Nat.add_assoc, header (by omega) (by omega)]
    interval_cases j <;> rfl
  · have placed := filled.record at_i
    rwa [Nat.zero_add] at placed
  · have first : pageBase p + 16 ≤ placeBase p (s.toWrite.length + 1) := by unfold placeBase; omega
    rw [filled.others a (by rw [count]; omega) (by omega) (by omega), base, if_neg (by omega), if_pos (by omega)]
  · rw [filled.outside (by omega) notEntry notPage, base, if_neg (by omega), if_neg notPage, if_neg notEntry]

/-- An attempt with no page held, a FREE one found and records waiting (R97, R99, R100). -/
theorem State.pump_opened {s : State} {p : PageNo} (law : s.windowLaw) (unheld : s.pages.current = none)
    (found : s.searchPage = some p) (waits : s.records.queue ≠ []) (room : s.records.queue.length ≤ 12) :
    ∃ w, s.Opened w p ∧ s.pump = { s with window := w, records := s.drainedRecords, pages := { s.pages with
      current := some p, cursor := p, nextSeq := s.pages.nextSeq + 1, sealTimer := 0 } } := by
  obtain ⟨w, filled, pumped⟩ := State.pump_opens law unheld found waits room
  exact ⟨w, State.opened_of_filled law (State.toWrite_length_le room) filled, pumped⟩

/-! ## A sealed page -/

/-- What sealing page `p` leaves in the window `w` (R102). -/
structure State.Sealed (s : State) (cause : SealCause) (w : Memory) (p : PageNo) : Prop where
  wf : w.wf = true
  owner : w.read (entryBase p) = pageSealed
  entryCount : w.read (entryBase p + 1) = s.recordCount p
  entrySeq : w.half (entryBase p + 2) = lowHalf (s.pageSeq p)
  seq : w.word (pageBase p) = s.pageSeq p
  count : w.read (pageBase p + 6) = s.recordCount p
  cause : w.read (pageBase p + 7) = cause.code
  sealedAt : w.word (pageBase p + 12) = s.run.stamp
  others : ∀ a, a ≠ pageBase p + 7 → ¬ (pageBase p + 12 ≤ a ∧ a < pageBase p + 16) →
    ¬ (entryBase p ≤ a ∧ a < entryBase p + 4) → w.read a = s.window.read a

theorem State.sealPage_sealed {s : State} {p : PageNo} (law : s.windowLaw) (cause : SealCause)
    (current : s.pages.current = some p) : s.Sealed cause (s.sealPage cause).window p := by
  have entry := entryBase_le p
  have page := pageBase_le p
  have read := State.windowRead_sealPage law p cause current
  have others : ∀ a, a ≠ pageBase p + 7 → ¬ (pageBase p + 12 ≤ a ∧ a < pageBase p + 16) →
      ¬ (entryBase p ≤ a ∧ a < entryBase p + 4) → (s.sealPage cause).window.read a = s.window.read a :=
    fun a notCause notStamp notEntry => by
      rw [read, if_neg (by omega), if_neg notEntry, if_neg notStamp, if_neg notCause]
  refine ⟨State.windowLaw_of_recordPath (s.sealPage_path cause) law, by rw [read, if_pos rfl], ?_, ?_, ?_,
    others _ (by omega) (by omega) (by omega), ?_, ?_, others⟩
  · rw [read, if_neg (by omega), if_pos (by omega), Nat.sub_self]
    rfl
  · refine Memory.half_eq fun j less => ?_
    rw [read, if_neg (by omega), if_pos (by omega), show entryBase p + 2 + j - (entryBase p + 1) = j + 1 by omega]
    rfl
  · exact Memory.word_congr fun j less => others _ (by omega) (by omega) (by omega)
  · rw [read, if_neg (by omega), if_neg (by omega), if_neg (by omega), if_pos rfl]
  · refine Memory.word_eq fun j less => ?_
    rw [read, if_neg (by omega), if_neg (by omega), if_pos (by omega), Nat.add_sub_cancel_left]

/-! ## A record generated -/

theorem State.generate_eq_pump {s : State} (room : s.records.queue.length < 12) (r : Record) :
    ∃ f, s.generate r = State.pump { s with
      alerts := { s.alerts with flags := f }
      records := { s.records with queue := s.records.queue ++ [{ r with seq := s.records.seq }]
                                  seq := s.records.seq + 1, generated := s.records.generated + 1 } } ∧
      ∀ g, State.flagged { s with alerts := { s.alerts with flags := f } } g = (s.announced r).flagged g := by
  obtain ⟨f, announced⟩ := s.announced_changes r
  refine ⟨f, ?_, fun g => ?_⟩
  · rw [State.generate_of_room room, announced]
    rfl
  · rw [announced]
    rfl

/-- The state in which the attempt of a generated record runs: the flags are `f`, the record `q` waits last. -/
def State.appended (s : State) (f : BitVec 7) (q : Record) : State :=
  { s with
    alerts := { s.alerts with flags := f }
    records := { s.records with queue := s.records.queue ++ [q], seq := s.records.seq + 1
                                generated := s.records.generated + 1 } }

/-- A record alone in the queue, fewer than 14 in the page held. -/
theorem State.pump_appended_fills {s : State} {p : PageNo} {n : Nat} (law : s.windowLaw) (settled : s.records.overrun = 0)
    (current : s.pages.current = some p) (empty : s.records.queue = []) (count : s.recordCount p = BitVec.ofNat 8 n)
    (room : n < 14) (f : BitVec 7) (q : Record) :
    ∃ w, s.window.Filled w p n [q] ∧ (s.appended f q).pump = { s.appended f q with window := w, records := { s.records with
      queue := [], seq := s.records.seq + 1, generated := s.records.generated + 1, written := s.records.written + 1 } } := by
  obtain ⟨w, filled, pumped⟩ := State.pumpLoop_fills (s := s.appended f q) (rs := [q])
    (2 * (s.appended f q).records.queue.length + 4) law current count (by rw [State.appended, empty]; rfl) settled
    (by simpa using by omega) (by simp [State.appended])
  exact ⟨w, filled, pumped⟩

/-- A record alone in the queue, 14 in the page held. -/
theorem State.pump_appended_seals {s : State} {p : PageNo} (law : s.windowLaw) (settled : s.records.overrun = 0)
    (current : s.pages.current = some p) (empty : s.records.queue = []) (count : s.recordCount p = BitVec.ofNat 8 14)
    (f : BitVec 7) (q : Record) :
    ∃ w, s.window.Placed w p 14 q ∧ (s.appended f q).pump = State.sealPage { s.appended f q with
      window := w, records := { s.records with
        queue := [], seq := s.records.seq + 1, generated := s.records.generated + 1
        written := s.records.written + 1 } } .full := by
  obtain ⟨w, placed, pumped⟩ := State.pump_seals (s := s.appended f q) law (r := q) current count
    (by rw [State.appended, empty]; rfl) settled
  exact ⟨w, placed, pumped⟩

/-- The flags with SEALED set (R170). -/
theorem State.flagged_sealed_of_or {s : State} {f : BitVec 7} (flags : s.alerts.flags = f ||| 0x01) :
    s.flagged .sealed = true := by
  rw [State.flagged, flags, bne_iff_ne]
  intro e
  have := congrArg (·.getLsbD 0) e
  simp [Flag.mask] at this

/-- The 15th record placed, then its page sealed FULL (R100, R102). -/
theorem State.sealPage_fifteenth {s u : State} {p : PageNo} {q : Record} {w : Memory} (placed : s.window.Placed w p 14 q)
    (window : u.window = w) (pages : u.pages = s.pages) (run : u.run = s.run) (current : s.pages.current = some p) :
    (u.sealPage .full).window.readBytes (placeBase p 15) 16 = q.bytes ∧ (u.sealPage .full).recordCount p = BitVec.ofNat 8 15 ∧
    (u.sealPage .full).window.read (entryBase p + 1) = BitVec.ofNat 8 15 ∧
    (u.sealPage .full).pages = { s.pages with
      current := none, sealTimer := 0, sealed := s.pages.sealed + 1, lastSealed := s.pageSeq p } ∧
    (u.sealPage .full).flagged .sealed = true ∧ (u.sealPage .full).pageOwner p = pageSealed ∧
    (u.sealPage .full).pageSeq p = s.pageSeq p ∧
    (u.sealPage .full).window.half (entryBase p + 2) = lowHalf (s.pageSeq p) ∧
    (u.sealPage .full).window.read (pageBase p + 7) = 1 ∧ (u.sealPage .full).window.word (pageBase p + 12) = s.run.stamp ∧
    ∀ a, ¬ (placeBase p 15 ≤ a ∧ a < placeBase p 15 + 16) → ¬ (pageBase p ≤ a ∧ a < pageBase p + 16) →
      ¬ (entryBase p ≤ a ∧ a < entryBase p + 4) → (u.sealPage .full).window.read a = s.window.read a := by
  subst window
  have entry := entryBase_le p
  have page := pageBase_le p
  have place : placeBase p 15 = pageBase p + 240 := by unfold placeBase; omega
  have held : u.pages.current = some p := pages ▸ current
  have seqKept : u.pageSeq p = s.pageSeq p :=
    Memory.word_congr fun j less => placed.others _ (by rw [show placeBase p (14 + 1) = _ from place]; omega)
      (by omega) (by omega)
  obtain ⟨_, owner, entryCount, entrySeq, seq, count, cause, sealedAt, others⟩ := State.sealPage_sealed placed.wf .full held
  rw [seqKept] at entrySeq seq
  refine ⟨Memory.readBytes_eq q.bytes_length fun j less => ?_, count.trans placed.count, entryCount.trans placed.count, ?_,
    State.flagged_sealed_of_or (f := u.alerts.flags) ?_, owner, seq, entrySeq, cause, sealedAt.trans (by rw [run]),
    fun a notPlace notHeader notEntry => ?_⟩
  · rw [others _ (by omega) (by omega) (by omega)]
    exact placed.place j less
  · rw [State.sealPage_eq .full held, seqKept, pages]
  · rw [State.sealPage_eq .full held]
  · rw [others a (by omega) (by omega) notEntry, placed.others a notPlace (by omega) (by omega)]

/-- Settles O37: with a page held the attempt takes the one record into it, else it opens the page found. -/
theorem generatedRecordReachesPage : Obligations.GeneratedRecordReachesPage := by
  rintro s t r p n rfl law settled
  have entry := entryBase_le p
  have page := pageBase_le p
  refine ⟨fun current empty count less => ?_, fun rs unheld room found listed => ?_⟩
  · obtain ⟨f, generated, flags⟩ := State.generate_eq_pump (s := s) (by rw [empty]; simp) r
    change s.generate r = (s.appended f { r with seq := s.records.seq }).pump at generated
    rcases Nat.lt_or_ge n 14 with room | full
    · obtain ⟨w, filled, pumped⟩ := State.pump_appended_fills law settled current empty count room f
        { r with seq := s.records.seq }
      rw [generated, pumped]
      refine ⟨by rw [← empty], filled.record (i := 0) rfl, filled.count, filled.entry (by simp), fun _ => ⟨rfl, ?_, ?_⟩,
        fun e => by omega⟩
      · exact (flags .sealed).trans (by simp [State.flagged_announced])
      · exact fun a outside => filled.others a (by simpa only [List.length_singleton, placeBase_succ] using outside)
    · obtain rfl : n = 14 := by omega
      obtain ⟨w, placed, pumped⟩ := State.pump_appended_seals law settled current empty count f
        { r with seq := s.records.seq }
      rw [generated, pumped]
      obtain ⟨place, count, entryCount, sealed⟩ := State.sealPage_fifteenth placed (u := { s.appended f { r with
        seq := s.records.seq } with window := w, records := { s.records with
          queue := [], seq := s.records.seq + 1, generated := s.records.generated + 1
          written := s.records.written + 1 } }) rfl rfl rfl current
      exact ⟨by rw [State.sealPage_records, ← empty], place, count, entryCount, fun e => by omega, fun _ => sealed⟩
  · obtain ⟨f, generated, flags⟩ := State.generate_eq_pump (s := s) room r
    obtain ⟨w, opened, pumped⟩ := State.pump_opened (s := s.appended f { r with seq := s.records.seq }) law unheld
      ((State.searchPage_congr (by rfl) (by rfl) (by rfl)).trans found) (by simp [State.appended])
      (by simp [State.appended]; omega)
    have all : (s.appended f { r with seq := s.records.seq }).toWrite = rs := by
      rw [listed, State.toWrite, if_pos (show (s.appended _ _).records.overrun = 0 from settled), List.append_nil]
      rfl
    have records : (s.appended f { r with seq := s.records.seq }).drainedRecords = { s.records with
        queue := [], seq := s.records.seq + 1, generated := s.records.generated + 1
        written := s.records.written + BitVec.ofNat 32 rs.length } := by
      rw [State.drainedRecords, all, if_pos (show (s.appended _ _).records.overrun = 0 from settled),
        if_pos (show (s.appended _ _).records.overrun = 0 from settled), ← settled]
      rfl
    rw [generated.trans pumped, records]
    obtain ⟨_, owner, entryCount, entrySeq, seq, first, count, cause, stamped, _, places, _, others⟩ := opened
    rw [all] at entryCount count places
    exact ⟨rfl, rfl, owner, entryCount, count, seq, stamped, places, others⟩

end Sys2Proof.Machine
end

section
/-! SUPPORT. The statements about the Page Writer's frame work, the end of a drain and the attempts as commands of their
own (R84, R97 to R102, R159, R161). -/

namespace Sys2Proof.Machine

open Sys2Proof

/-! ## The Page Writer's frame work with no record waiting -/

/-- The Page Writer's work of a frame expiry begun on a page held: the seal timer has risen (R101). -/
def State.timed (s : State) : State :=
  { s with frame := { s.frame with pageWork := false }, pages := { s.pages with sealTimer := s.pages.sealTimer + 1 } }

/-- The seal delay runs out at the outstanding work of a frame expiry (R101). -/
def State.sealDue (s : State) : Prop := s.run.geometry.map Geometry.sealDelay = some (s.pages.sealTimer + 1)

/-- A seal depends on the window and on the stamp alone. -/
theorem State.Sealed.of_same {s u : State} {cause : SealCause} {w : Memory} {p : PageNo} (h : u.Sealed cause w p)
    (window : u.window = s.window) (run : u.run = s.run) : s.Sealed cause w p := by
  obtain ⟨wf, owner, entryCount, entrySeq, seq, count, code, stamped, others⟩ := h
  simp only [State.recordCount, State.pageSeq, window, run] at entryCount entrySeq seq count stamped others
  exact ⟨wf, owner, entryCount, entrySeq, seq, count, code, stamped, others⟩

/-- With no record waiting the seal alone is made (R102). -/
theorem State.closePage_of_empty {s : State} (empty : s.records.queue = []) (cause : SealCause) :
    s.closePage cause = s.sealPage cause := State.pump_of_empty (by rw [State.sealPage_records, empty])

section
variable {s : State} (empty : s.records.queue = [])
include empty

theorem State.pageWriterWork_unheld (unheld : s.pages.current = none) :
    s.pageWriterWork = { s with frame := { s.frame with pageWork := false } } := by
  unfold State.pageWriterWork
  rw [unheld]
  exact State.pump_of_empty empty

variable {p : PageNo} (held : s.pages.current = some p)
include held

theorem State.pageWriterWork_due (due : s.sealDue) : s.pageWriterWork = s.timed.sealPage .timer := by
  obtain ⟨g, geometry, delay⟩ := Option.map_eq_some_iff.mp due
  have advance : s.pageWriterWork = (s.setFrame { s.frame with pageWork := false }).advanceSealTimer :=
    if_pos (by rw [held]; rfl)
  have seals : (s.setFrame { s.frame with pageWork := false }).advanceSealTimer = s.timed.closePage .timer := by
    unfold State.advanceSealTimer
    rw [State.setFrame_run, geometry]
    exact if_pos delay.symm
  rw [advance, seals, State.closePage_of_empty (s := s.timed) empty]

omit empty in
theorem State.pageWriterWork_notDue (notDue : ¬ s.sealDue) : s.pageWriterWork = s.timed := by
  have advance : s.pageWriterWork = (s.setFrame { s.frame with pageWork := false }).advanceSealTimer :=
    if_pos (by rw [held]; rfl)
  rw [advance]
  unfold State.advanceSealTimer
  rw [State.setFrame_run]
  cases geometry : s.run.geometry with
  | none => rfl
  | some g => exact if_neg fun delay => notDue (by rw [State.sealDue, geometry]; exact congrArg some delay.symm)

end

/-- With no record waiting the work touches pages, window and flags alone, and is done. -/
theorem State.pageWriterWork_keeps {s : State} (empty : s.records.queue = []) :
    s.pageWriterWork.run = s.run ∧ s.pageWriterWork.read = s.read ∧ s.pageWriterWork.records = s.records ∧
    s.pageWriterWork.frame = { s.frame with pageWork := false } := by
  cases held : s.pages.current with
  | none =>
    rw [State.pageWriterWork_unheld empty held]
    exact ⟨rfl, rfl, rfl, rfl⟩
  | some p =>
    by_cases due : s.sealDue
    · rw [State.pageWriterWork_due empty held due, State.sealPage_eq (s := s.timed) .timer held]
      exact ⟨rfl, rfl, rfl, rfl⟩
    · rw [State.pageWriterWork_notDue held due]
      exact ⟨rfl, rfl, rfl, rfl⟩

/-! ## The end of a drain -/

/-- In DRAINING, the reader idle and no record waiting: the drain can end (R159). -/
def State.Drained (s : State) : Prop := s.run.state = .draining ∧ s.read = none ∧ s.records.queue = []

theorem State.drainTest_of_drained {s : State} (drained : s.Drained) : s.drainTest = s.finishPageWork.drainEnd := by
  obtain ⟨draining, idle, empty⟩ := drained
  exact if_pos (by rw [draining, idle, empty]; rfl)

theorem State.drainTest_of_not_drained {s : State} (notDrained : ¬ s.Drained) : s.drainTest = s := by
  refine if_neg fun ends => notDrained ?_
  simp only [Bool.and_eq_true, decide_eq_true_eq, Option.isNone_iff_eq_none, List.isEmpty_iff] at ends
  exact ⟨ends.1.1, ends.1.2, ends.2⟩

theorem State.drainEnd_unheld {s : State} (empty : s.records.queue = []) (unheld : s.pages.current = none) :
    s.drainEnd = { s with
      run := { s.run with state := .idle, frameTimer := none }, frame := FrameWork.empty
      alerts := { s.alerts with flags := s.alerts.flags ||| 0x20 } } := by
  have same : s.closePage .stop = s := by
    rw [State.closePage_of_empty empty, State.sealPage, unheld]
  rw [State.drainEnd, same]
  rfl

theorem State.drainEnd_held {s : State} {p : PageNo} (empty : s.records.queue = []) (held : s.pages.current = some p) :
    s.drainEnd = { s with
      run := { s.run with state := .idle, frameTimer := none }, frame := FrameWork.empty
      window := (s.sealPage .stop).window
      pages := { s.pages with current := none, sealTimer := 0, sealed := s.pages.sealed + 1, lastSealed := s.pageSeq p }
      alerts := { s.alerts with flags := s.alerts.flags ||| 0x21 } } := by
  have both : s.alerts.flags ||| 0x01 ||| 0x20 = s.alerts.flags ||| 0x21 := BitVec.or_assoc ..
  rw [State.drainEnd, State.closePage_of_empty empty, ← both, State.sealPage_eq .stop held]
  rfl

/-- Once the Page Writer's work is made, the end test of a drain is that of before (R161). -/
theorem State.pageWork_of_drained {s : State} (drained : s.Drained) (outstanding : s.frame.pageWork = true) :
    s.pageWork = s.drainTest := by
  obtain ⟨run, read, records, frame⟩ := State.pageWriterWork_keeps drained.2.2
  have still : s.pageWriterWork.Drained := by rwa [State.Drained, run, read, records]
  have done : s.pageWriterWork.finishPageWork = s.pageWriterWork := if_neg (by simp [frame])
  have finished : s.finishPageWork = s.pageWriterWork := if_pos outstanding
  rw [State.pageWork, State.drainTest_of_drained still, done, State.drainTest_of_drained drained, finished]

/-- The run goes on, or the reader is busy: the drain does not end. -/
theorem State.not_drained {s : State} (goesOn : s.run.state = .running ∨ s.read.isSome = true) : ¬ s.Drained := by
  rintro ⟨draining, idle, -⟩
  rcases goesOn with running | busy
  · exact absurd (running.symm.trans draining) (by decide)
  · rw [idle] at busy
    cases busy

/-- Settles O23: the work is the timer's advance, with the seal when the delay runs out, and then the end test. -/
theorem sealTimerSealsAtDelay : Obligations.SealTimerSealsAtDelay := by
  intro s p g outstanding held geometry empty
  have work : exec .timerSeal s = .next s.pageWork := if_pos (by rw [outstanding, held]; rfl)
  have dueIff : s.sealDue ↔ s.pages.sealTimer + 1 = g.sealDelay := by
    rw [State.sealDue, geometry, Option.map_some, Option.some_inj, eq_comm]
  rw [work]
  refine ⟨fun draining idle => ?_, fun goesOn notDue => ?_, fun goesOn due => ?_⟩
  · rw [State.pageWork_of_drained ⟨draining, idle, empty⟩ outstanding]
    rfl
  · rw [State.pageWork, State.pageWriterWork_notDue held (mt dueIff.mp notDue),
      State.drainTest_of_not_drained (s := s.timed) (State.not_drained goesOn)]
    rfl
  · have sealedState : s.pageWork = s.timed.sealPage .timer := by
      rw [State.pageWork, State.pageWriterWork_due empty held (dueIff.mpr due)]
      refine State.drainTest_of_not_drained (State.not_drained ?_)
      rwa [State.sealPage_eq (s := s.timed) .timer held]
    refine ⟨_, rfl, ?_, fun law => ?_⟩
    · rw [sealedState, State.sealPage_eq (s := s.timed) .timer held]
      rfl
    · rw [sealedState]
      obtain ⟨_, owner, entryCount, entrySeq, seq, count, cause, stamped, others⟩ :=
        State.sealPage_sealed (s := s.timed) law .timer held
      exact ⟨owner, entryCount, entrySeq, seq, count, cause, stamped,
        fun a entry page => others a (by omega) (by omega) entry⟩

/-- A drain's end with a page held: the seal that falls is TIMER when the seal delay runs out first, else STOP (R159,
R161). -/
theorem State.drainTest_held {s : State} {p : PageNo} (drained : s.Drained) (held : s.pages.current = some p) :
    ∃ (cause : SealCause) (w : Memory),
      cause.code = (if s.frame.pageWork = true ∧ s.run.geometry.map Geometry.sealDelay = some (s.pages.sealTimer + 1) then 2
        else 4) ∧
      (s.windowLaw → s.Sealed cause w p) ∧
      s.drainTest = { s with
        run := { s.run with state := .idle, frameTimer := none }, frame := FrameWork.empty, window := w
        pages := { s.pages with
          current := none, sealTimer := 0, sealed := s.pages.sealed + 1, lastSealed := s.pageSeq p }
        alerts := { s.alerts with flags := s.alerts.flags ||| 0x21 } } := by
  have empty := drained.2.2
  rw [State.drainTest_of_drained drained]
  by_cases outstanding : s.frame.pageWork = true
  · have finished : s.finishPageWork = s.pageWriterWork := if_pos outstanding
    by_cases due : s.sealDue
    · refine ⟨.timer, _, (if_pos ⟨outstanding, due⟩).symm,
        fun law => (State.sealPage_sealed (s := s.timed) law .timer held).of_same rfl rfl, ?_⟩
      have both : s.alerts.flags ||| 0x01 ||| 0x20 = s.alerts.flags ||| 0x21 := BitVec.or_assoc ..
      rw [finished, State.pageWriterWork_due empty held due, State.drainEnd_unheld
        (by rw [State.sealPage_records]; exact empty) (State.sealPage_unheld ..), ← both,
        State.sealPage_eq (s := s.timed) .timer held]
      rfl
    · refine ⟨.stop, _, (if_neg fun both => due both.2).symm,
        fun law => (State.sealPage_sealed (s := s.timed) law .stop held).of_same rfl rfl, ?_⟩
      rw [finished, State.pageWriterWork_notDue held due, State.drainEnd_held (s := s.timed) empty held]
      rfl
  · refine ⟨.stop, _, (if_neg fun both => outstanding both.1).symm, fun law => State.sealPage_sealed law .stop held, ?_⟩
    have finished : s.finishPageWork = s := if_neg outstanding
    rw [finished, State.drainEnd_held empty held]

theorem State.drainTest_unheld {s : State} (drained : s.Drained) (unheld : s.pages.current = none) :
    s.drainTest = { s with
      run := { s.run with state := .idle, frameTimer := none }, frame := FrameWork.empty
      alerts := { s.alerts with flags := s.alerts.flags ||| 0x20 } } := by
  have empty := drained.2.2
  rw [State.drainTest_of_drained drained, State.finishPageWork]
  split
  · rw [State.pageWriterWork_unheld empty unheld]
    exact State.drainEnd_unheld empty unheld
  · exact State.drainEnd_unheld empty unheld

/-- A flag of the register's value (R170). -/
theorem State.flagged_of_or {s : State} {f : BitVec 7} {g : Flag} {m : BitVec 7} (flags : s.alerts.flags = f ||| m)
    (covers : m &&& g.mask = g.mask) : s.flagged g = true := by
  have set : (s.alerts.flags &&& g.mask) = g.mask := by
    rw [flags, ← covers]
    ext i
    simp only [BitVec.getElem_and, BitVec.getElem_or]
    cases m[i] <;> simp
  rw [State.flagged, set]
  cases g <;> decide

/-- The Page Writer finds no FREE page: OVERRUN_RECORD leaves its record waiting (R84). -/
theorem exec_overrunRecord_queued {s : State} (room : s.records.queue.length < 12) (pending : s.records.overrun ≠ 0)
    (unheld : s.pages.current = none) (unfound : s.searchPage = none) :
    exec .overrunRecord s = .next s.placeOverrun := by
  have placed : exec .overrunRecord s = .next s.placeOverrun.pump := if_pos (by simpa [tripQueueSize, room] using pending)
  obtain ⟨r, same⟩ := s.placeOverrun_changes
  rw [placed, same]
  exact congrArg Host.Outcome.next (State.pump_of_noPage unheld unfound)

/-- Settles O10: a drain's end with and without a page held, and the OVERRUN record with its place. -/
theorem drainEndAndOverrunRecordAsCommands : Obligations.DrainEndAndOverrunRecordAsCommands := by
  intro s
  refine ⟨fun draining idle empty => ?_, fun goesOn => ?_, fun room pending unheld entries noneFree => ?_, fun none => ?_⟩
  · refine ⟨_, rfl, ?_⟩
    cases held : s.pages.current with
    | none =>
      rw [State.drainTest_unheld ⟨draining, idle, empty⟩ held]
      exact ⟨rfl, State.flagged_of_or rfl rfl, held, fun _ => ⟨rfl, rfl, rfl⟩, fun _ => nofun⟩
    | some p =>
      obtain ⟨cause, w, code, sealed, ended⟩ := State.drainTest_held ⟨draining, idle, empty⟩ held
      rw [ended]
      refine ⟨rfl, State.flagged_of_or rfl rfl, rfl, nofun, fun q e law => ?_⟩
      cases e
      obtain ⟨_, owner, _, _, _, _, sealCause, stamped, _⟩ := sealed law
      exact ⟨State.flagged_of_or rfl rfl, owner, sealCause.trans code, stamped, rfl, rfl⟩
  · refine congrArg Host.Outcome.next (State.drainTest_of_not_drained ?_)
    rintro ⟨draining, idle, empty⟩
    simp [draining, idle, empty] at goesOn
  · rw [exec_overrunRecord_queued room pending unheld (State.searchPage_eq_none entries noneFree)]
    exact congrArg Host.Outcome.next (State.placeOverrun_of_pending pending)
  · refine if_neg ?_
    rw [tripQueueSize]
    rcases none with full | settled
    · simp [Nat.not_lt.mpr full]
    · simp [settled]

/-! ## The acquisition -/

/-- The outstanding work with no page held (R101). -/
theorem State.pageWriterWork_begun {s : State} (unheld : s.pages.current = none) :
    s.pageWriterWork = State.pump { s with frame := { s.frame with pageWork := false } } := by
  unfold State.pageWriterWork
  rw [unheld]
  rfl

/-- An opened page depends on the window, the stamp, the records and the next page sequence alone. -/
theorem State.Opened.of_same {s u : State} {w : Memory} {p : PageNo} (h : u.Opened w p) (window : u.window = s.window)
    (run : u.run = s.run) (records : u.records = s.records) (pages : u.pages = s.pages) : s.Opened w p := by
  obtain ⟨wf, owner, entryCount, entrySeq, seq, first, count, cause, opened, sealedAt, places, empty, others⟩ := h
  simp only [State.toWrite, State.headSeq, State.overrunRecord, window, run, records, pages] at *
  exact ⟨wf, owner, entryCount, entrySeq, seq, first, count, cause, opened, sealedAt, places, empty, others⟩

/-- What the records of a page read, when the bytes of their places stand. -/
theorem Memory.readBytes_congr {m w : Memory} {a n : Nat} (bytes : ∀ j, j < n → w.read (a + j) = m.read (a + j)) :
    w.readBytes a n = m.readBytes a n :=
  List.map_congr_left fun j inside => bytes j (List.mem_range.mp inside)

/-- An opened page that is sealed in the same event keeps what was written (R99, R102). -/
theorem State.Opened.sealed {s u : State} {w : Memory} {p : PageNo} {cause : SealCause} (h : s.Opened u.window p)
    (after : u.Sealed cause w p) (room : s.toWrite.length ≤ 14) :
    w.read (entryBase p + 1) = BitVec.ofNat 8 s.toWrite.length ∧ w.half (entryBase p + 2) = lowHalf s.pages.nextSeq ∧
    w.word (pageBase p) = s.pages.nextSeq ∧ w.half (pageBase p + 4) = s.headSeq ∧
    w.read (pageBase p + 6) = BitVec.ofNat 8 s.toWrite.length ∧ w.word (pageBase p + 8) = s.run.stamp ∧
    (∀ i r, s.toWrite[i]? = some r → w.readBytes (placeBase p (i + 1)) 16 = r.bytes) ∧
    (∀ a, placeBase p (s.toWrite.length + 1) ≤ a → a < pageBase p + 0x100 → w.read a = 0) ∧
    ∀ a, ¬ (entryBase p ≤ a ∧ a < entryBase p + 4) → ¬ (pageBase p ≤ a ∧ a < pageBase p + 0x100) →
      w.read a = s.window.read a := by
  have entry := entryBase_le p
  have page := pageBase_le p
  have pageSeq : u.pageSeq p = s.pages.nextSeq := h.seq
  refine ⟨after.entryCount.trans h.count, by rw [after.entrySeq, pageSeq], after.seq.trans h.seq, ?_,
    after.count.trans h.count, ?_, fun i r at_i => ?_, fun a low high => ?_, fun a notEntry notPage => ?_⟩
  · rw [← h.first]
    exact Memory.half_congr fun j less => after.others _ (by omega) (by omega) (by omega)
  · rw [← h.opened]
    exact Memory.word_congr fun j less => after.others _ (by omega) (by omega) (by omega)
  · have inside := (List.getElem?_eq_some_iff.mp at_i).1
    have place : placeBase p (i + 1) = pageBase p + (i + 1) * 16 := rfl
    rw [← h.records i r at_i]
    exact Memory.readBytes_congr fun j less => after.others _ (by omega) (by omega) (by omega)
  · have place : placeBase p (s.toWrite.length + 1) = pageBase p + (s.toWrite.length + 1) * 16 := rfl
    rw [after.others a (by omega) (by omega) (by omega), h.empty a low high]
  · rw [after.others a (by omega) (by omega) notEntry, h.others a notEntry notPage]

/-- The part after the attempt of a frame expiry that opened page `p` and left the window `w` (R97, R99). -/
def State.acquired (s : State) (w : Memory) (p : PageNo) : State :=
  { s with
    frame := { s.frame with pageWork := false }, window := w, records := s.drainedRecords
    pages := { s.pages with current := some p, cursor := p, nextSeq := s.pages.nextSeq + 1, sealTimer := 0 } }

/-- Settles O41: the attempt opens the page found or changes nothing, and a drain ends behind it when it can. -/
theorem acquisitionTakesWaitingRecords : Obligations.AcquisitionTakesWaitingRecords := by
  intro s outstanding unheld room law
  have work : exec .pageAcquisition s = .next s.pageWork := if_pos (by rw [outstanding, unheld]; rfl)
  have begun := State.pageWriterWork_begun unheld
  rw [work]
  refine ⟨fun goesOn nothing => ?_, fun draining idle empty => ?_, fun p rs ends works endsIff waits found listed => ?_⟩
  · have same : s.pageWriterWork = { s with frame := { s.frame with pageWork := false } } := by
      rw [begun]
      rcases nothing with empty | unfound
      · exact State.pump_of_empty empty
      · exact State.pump_of_noPage unheld ((State.searchPage_congr rfl rfl rfl).trans unfound)
    rw [State.pageWork, same, State.drainTest_of_not_drained]
    rintro ⟨draining, idle, empty⟩
    simp only at draining idle empty
    simp [draining, idle, empty] at goesOn
  · rw [State.pageWork_of_drained ⟨draining, idle, empty⟩ outstanding, State.drainTest_unheld ⟨draining, idle, empty⟩ unheld]
  · obtain ⟨w, openedBegun, pumped⟩ := State.pump_opened (s := { s with frame := { s.frame with pageWork := false } }) law
      unheld ((State.searchPage_congr rfl rfl rfl).trans found) waits room
    have opened : s.Opened w p := openedBegun.of_same rfl rfl rfl rfl
    have all : s.toWrite = rs := listed.symm
    have written : s.drainedRecords.written = s.records.written + BitVec.ofNat 32 rs.length := by rw [← all]; rfl
    have length := State.toWrite_length_le room
    have acquires : s.pageWork = (s.acquired w p).drainTest := by
      rw [State.pageWork, begun, pumped]
      rfl
    cases ends with
    | false =>
      have goesOn : ¬ (s.acquired w p).Drained := by
        rintro ⟨draining, idle, -⟩
        exact absurd (endsIff.mpr ⟨draining, idle⟩) (by decide)
      rw [acquires, State.drainTest_of_not_drained goesOn]
      obtain ⟨_, owner, entryCount, entrySeq, seq, first, count, cause, stamped, sealedAt, places, zero, others⟩ := opened
      rw [all] at entryCount count places zero
      exact ⟨_, rfl, fun _ => rfl, nofun, rfl, rfl, rfl, written, owner, entryCount, entrySeq, seq, first, count, cause,
        stamped, sealedAt, places, zero, others⟩
    | true =>
      obtain ⟨draining, idle⟩ := endsIff.mp rfl
      obtain ⟨cause, v, code, sealed, ended⟩ := State.drainTest_held (s := s.acquired w p) (p := p) ⟨draining, idle, rfl⟩ rfl
      have sealedPage := sealed opened.wf
      obtain ⟨entryCount, entrySeq, seq, first, count, stamped, places, zero, others⟩ :=
        State.Opened.sealed (u := s.acquired w p) opened sealedPage (by omega)
      have lastSealed : (s.acquired w p).pageSeq p = s.pages.nextSeq := opened.seq
      rw [all] at entryCount count places zero
      rw [acquires, ended, lastSealed]
      exact ⟨_, rfl, nofun, fun _ => rfl, rfl, rfl, rfl, written, sealedPage.owner, entryCount, entrySeq, seq, first, count,
        sealedPage.cause.trans code, stamped, sealedPage.sealedAt, places, zero, others⟩

end Sys2Proof.Machine
end

section
/-! SUPPORT. The takes that are answered at once, and the groups (R117 to R120, R128 to R148). -/

namespace Sys2Proof.Machine

open Sys2Proof

/-! ## A take begun -/

/-- The take of slot `k` begun by a sweep that has `rest` to visit after it (R117). -/
def State.begun (s : State) (k : SlotNo) (rest : List SlotNo) : State :=
  (s.setFrame { s.frame with sweep := rest }).beginTake k

/-- What a take does once begun, by the kind of its request (R128). -/
def State.act (s : State) (k : SlotNo) (r : Request) : Option Kind → State
  | some .setChain => s.actSetChain k r
  | some .readChain => s.actReadChain k r
  | some .parkChain => s.actParkChain k r
  | some .setGroup => s.actSetGroup k r
  | some .rearmGroup => s.actRearm k r
  | some .dropGroup => s.actDrop k r
  | some .flush => s.actFlush k
  | none => s.actBadKind k

theorem State.takeNext_begun {s : State} {k : SlotNo} {rest : List SlotNo} {kind : Option Kind} (h : s.nextTake k rest)
    (named : kindOf (s.readRequest k).kind = kind) : s.takeNext kind = (s.begun k rest).act k (s.readRequest k) kind := by
  have same : (s.setFrame { s.frame with sweep := rest }).readRequest k = s.readRequest k := rfl
  rw [State.takeNext_of_nextTake h named, State.takeSlot, same, named]
  cases kind with
  | none => rfl
  | some kind => cases kind <;> rfl

/-- The command of a take (R128). -/
theorem State.next_takeNext {s : State} {k : SlotNo} (rest : List SlotNo) {kind : Option Kind} (h : s.nextTake k rest)
    (named : kindOf (s.readRequest k).kind = kind) :
    (.next (s.takeNext kind) : Host.Outcome State Fault Refusal) = .next ((s.begun k rest).act k (s.readRequest k) kind) :=
  congrArg Host.Outcome.next (State.takeNext_begun h named)

/-- A chain record that is put back changes nothing. -/
theorem State.modChain_same {s : State} {c : ChainNo} {f : ChainRec → ChainRec} (same : f (s.chain c) = s.chain c) :
    s.modChain c f = s := by
  have chains : s.chains.set c.val (s.chain c) c.isLt = s.chains := Vector.set_getElem_self ..
  rw [State.modChain, same, State.setChain, chains]

theorem WaitList.remove_of_not_mem {w : WaitList} {k : SlotNo} (off : k ∉ w.slots) : w.remove k = w := by
  cases w with
  | reads l =>
    refine congrArg WaitList.reads (List.filter_eq_self.mpr fun j m => ?_)
    exact bne_iff_ne.mpr fun e => off (e ▸ m)
  | deferred d =>
    refine if_neg fun e => off ?_
    rw [e]
    exact List.mem_singleton_self k

/-- A slot on no list leaves none. -/
theorem State.unlist_of_unlisted {s : State} {k : SlotNo} (off : ∀ c, k ∉ (s.chain c).waiting.slots) : s.unlist k = s := by
  unfold State.unlist
  split
  · rename_i r held
    exact State.modChain_same (by rw [WaitList.remove_of_not_mem (off _)])
  · rfl

section
variable {s : State} {k : SlotNo} {rest : List SlotNo} (h : s.nextTake k rest)
include h

section
variable (taken : s.takenLaw)
include taken

/-- The slot taken next is not among those taken. -/
theorem State.apart_of_nextTake : ∀ x ∈ s.requests.taken, x.slot ≠ k :=
  State.posted_not_taken h.2.1 (State.takenLaw_iff.mp taken).readsTaken

/-- The slot taken next stands on no list. -/
theorem State.unlisted_of_nextTake (c : ChainNo) : k ∉ (s.chain c).waiting.slots := fun on => by
  obtain ⟨x, held, same, -⟩ := (State.takenLaw_iff.mp taken).listTaken c k on
  exact State.apart_of_nextTake h taken x held same

/-- An answer in the take itself: window, taken set and flags (R119). -/
theorem State.answer_of_nextTake {u : State} (requests : u.requests = (s.begun k rest).requests)
    (waiting : ∀ c, (u.chain c).waiting = (s.chain c).waiting) (a : Answer) :
    u.answer k a = { u with
      window := u.answeredWindow k a, requests := { taken := s.requests.taken, cursor := k }
      alerts := { u.alerts with flags := u.alerts.flags ||| 0x04 } } := by
  have off : u.unlist k = u := State.unlist_of_unlisted fun c => by
    rw [waiting c]
    exact State.unlisted_of_nextTake h taken c
  have left : u.requests.taken.filter (fun x => x.slot != k) = s.requests.taken := by
    rw [show u.requests = (s.beginTake k).requests from requests]
    exact State.takenBut_beginTake (State.apart_of_nextTake h taken)
  have cursor : u.requests.cursor = k := by rw [requests]; rfl
  unfold State.answer
  rw [off, left]
  dsimp only [State.raise]
  rw [cursor]
  rfl

end
end

/-! ## The bytes of an answer -/

theorem payloadBytes_length (bs : List Byte) : (payloadBytes bs).length = 16 := by simp [payloadBytes]

section
variable {s : State} {a : Answer} {i : Nat}

theorem State.answerBytes_stamp (inside : i < 4) : (s.answerBytes a).getD (4 + i) 0 = (wordBytes s.run.stamp).getD i 0 := by
  rw [State.answerBytes, List.append_assoc, List.append_assoc, List.getD_append_right _ _ _ _ (by simp),
    List.getD_append _ _ _ _ (by simp [wordBytes_length]; omega)]
  simp

theorem State.answerBytes_payload (inside : i < 16) : (s.answerBytes a).getD (8 + i) 0 = a.payload.getD i 0 := by
  rw [State.answerBytes, List.append_assoc, List.getD_append_right _ _ _ _ (by simp [wordBytes_length]),
    List.getD_append _ _ _ _ (by simp [wordBytes_length, payloadBytes_length]; omega), ← payloadBytes_getD _ _ inside]
  simp [wordBytes_length]

theorem State.answerBytes_rest : (s.answerBytes a).getD (24 + i) 0 = 0 := by
  rw [State.answerBytes, List.getD_append_right _ _ _ _ (by simp [wordBytes_length, payloadBytes_length])]
  exact List.getElem?_getD_replicate_default_eq ..

end

/-- A slot that has been answered (R119). -/
theorem State.showsAnswer_of_window {u t : State} {k : SlotNo} {a : Answer} (law : u.windowLaw)
    (window : t.window = u.answeredWindow k a) : t.showsAnswer k a.result.code a.detail u.run.stamp a.payload := by
  have base := slotBase_le k
  have byte {j : Nat} (inside : j < 32) : t.window.read (slotBase k + 16 + j) = (u.answerBytes a).getD j 0 := by
    rw [window, State.answeredWindow_read u k a law, if_neg (by omega), if_pos (by omega), Nat.add_sub_cancel_left]
  refine ⟨?_, byte (j := 0) (by omega), byte (j := 1) (by omega), byte (j := 2) (by omega), byte (j := 3) (by omega),
    Memory.word_eq fun j less => ?_, fun i less => ?_, fun i less => ?_⟩
  · rw [State.slotOwner, window, State.answeredWindow_read u k a law, if_pos rfl]
  · rw [show slotBase k + 20 + j = slotBase k + 16 + (4 + j) by omega, byte (by omega), State.answerBytes_stamp less]
  · rw [show slotBase k + 24 + i = slotBase k + 16 + (8 + i) by omega, byte (by omega), State.answerBytes_payload less]
  · rw [show slotBase k + 40 + i = slotBase k + 16 + (24 + i) by omega, byte (by omega), State.answerBytes_rest]

theorem State.answer_shows {s : State} (law : s.windowLaw) (k : SlotNo) (a : Answer) :
    (s.answer k a).showsAnswer k a.result.code a.detail s.run.stamp a.payload :=
  have written : (s.answer k a).window = s.answeredWindow k a := rfl
  State.showsAnswer_of_window law written

/-- The answered slot apart, the window is that before the take (R117, R119). -/
theorem State.windowKeptBut_of_window {s u t : State} {k : SlotNo} {a : Answer} (law : s.windowLaw)
    (begun : u.window = s.window.write (slotBase k) slotTaken) (window : t.window = u.answeredWindow k a) :
    s.windowKeptBut t k := by
  intro x other
  have wf : u.window.wf = true := begun ▸ Memory.wf_write law _ _
  rw [window, State.answeredWindow_read u k a wf, if_neg fun e => other (.inl e), if_neg fun e => other (.inr (by omega)),
    begun, Memory.read_write law, if_neg fun e => other (.inl e)]

/-- What an answer in the take itself leaves (R117, R119). -/
theorem State.answer_begun {s u : State} {k : SlotNo} {rest : List SlotNo} (h : s.nextTake k rest) (taken : s.takenLaw)
    (law : s.windowLaw) (requests : u.requests = (s.begun k rest).requests)
    (waiting : ∀ c, (u.chain c).waiting = (s.chain c).waiting) (window : u.window = (s.begun k rest).window)
    (run : u.run = s.run) (a : Answer) :
    u.answer k a = { u with
      window := (u.answer k a).window, requests := { taken := s.requests.taken, cursor := k }
      alerts := { u.alerts with flags := u.alerts.flags ||| 0x04 } } ∧
    (u.answer k a).showsAnswer k a.result.code a.detail s.run.stamp a.payload ∧ s.windowKeptBut (u.answer k a) k := by
  have wf : u.windowLaw := by
    rw [State.windowLaw, window]
    exact Memory.wf_write law _ _
  have written : (u.answer k a).window = u.answeredWindow k a := rfl
  refine ⟨?_, run ▸ State.showsAnswer_of_window wf written, State.windowKeptBut_of_window law window written⟩
  rw [written]
  exact State.answer_of_nextTake h taken requests waiting a

/-! ## Takes that are refused -/

theorem payload_rangeRefusal {ps : List Ranged} {a : Answer} (refused : rangeRefusal ps = some a) : a.payload = [] := by
  obtain ⟨n, -, rfl⟩ := Option.map_eq_some_iff.mp refused
  rfl

theorem payload_failWhen {b : Bool} {r : Result} {n : Nat} {a : Answer} (refused : failWhen b (refusal r n) = some a) :
    a.payload = [] := by
  obtain ⟨-, same⟩ := Option.ite_none_right_eq_some.mp refused
  cases same
  rfl

/-- The first refusal is one of the list. -/
theorem mem_of_firstRefusal {l : List (Option Answer)} {a : Answer} (refused : firstRefusal l = some a) : some a ∈ l := by
  induction l with
  | nil => cases refused
  | cons o l ih =>
    cases o with
    | none => exact List.mem_cons_of_mem _ (ih refused)
    | some b =>
      cases refused
      exact List.mem_cons_self

/-- A refusal of a check carries no payload (R120). -/
def Refuses (o : Option Answer) : Prop := ∀ a, o = some a → a.payload = []

theorem refuses_firstRefusal {l : List (Option Answer)} (all : ∀ o ∈ l, Refuses o) : Refuses (firstRefusal l) :=
  fun a refused => all _ (mem_of_firstRefusal refused) a rfl

section
variable (s : State) (r : Request)

theorem State.checkSetChain_refuses : Refuses (s.checkSetChain r) := by
  refine refuses_firstRefusal fun o m => ?_
  simp only [List.mem_cons, List.not_mem_nil, or_false] at m
  rcases m with rfl | rfl | rfl | rfl
  · exact fun a => payload_rangeRefusal
  · exact fun a => payload_failWhen
  · intro a refused
    obtain ⟨n, -, rfl⟩ := Option.map_eq_some_iff.mp refused
    rfl
  · exact fun a => payload_failWhen

theorem State.checkReadChain_refuses : Refuses (s.checkReadChain r) := by
  refine refuses_firstRefusal fun o m => ?_
  simp only [List.mem_cons, List.not_mem_nil, or_false] at m
  rcases m with rfl | rfl | rfl | rfl
  · exact fun a => payload_rangeRefusal
  all_goals exact fun a => payload_failWhen

theorem State.checkParkChain_refuses : Refuses (s.checkParkChain r) := by
  refine refuses_firstRefusal fun o m => ?_
  simp only [List.mem_cons, List.not_mem_nil, or_false] at m
  rcases m with rfl | rfl | rfl | rfl
  · exact fun a => payload_rangeRefusal
  all_goals exact fun a => payload_failWhen

theorem State.checkSetGroup_refuses : Refuses (s.checkSetGroup r) := by
  refine refuses_firstRefusal fun o m => ?_
  simp only [List.mem_cons, List.not_mem_nil, or_false] at m
  rcases m with rfl | rfl | rfl | rfl | rfl | rfl
  · exact fun a => payload_rangeRefusal
  all_goals exact fun a => payload_failWhen

theorem State.checkRearm_refuses : Refuses (s.checkRearm r) := by
  refine refuses_firstRefusal fun o m => ?_
  simp only [List.mem_cons, List.not_mem_nil, or_false] at m
  rcases m with rfl | rfl | rfl
  · exact fun a => payload_rangeRefusal
  all_goals exact fun a => payload_failWhen

theorem State.checkDrop_refuses : Refuses (s.checkDrop r) := by
  refine refuses_firstRefusal fun o m => ?_
  simp only [List.mem_cons, List.not_mem_nil, or_false] at m
  rcases m with rfl | rfl
  · exact fun a => payload_rangeRefusal
  · exact fun a => payload_failWhen

end

/-! ## The checks at the take read the part as it stood -/

section
variable {s : State} {k : SlotNo} (rest : List SlotNo) (taken : s.takenLaw)
include taken

theorem State.deferredSetChain_begun (c : ChainNo) : (s.begun k rest).deferredSetChain c = s.deferredSetChain c := by
  have waiting : ((s.begun k rest).chain c).waiting = (s.chain c).waiting := rfl
  unfold State.deferredSetChain
  rw [waiting]
  cases list : (s.chain c).waiting with
  | reads l => rfl
  | deferred j =>
    obtain ⟨x, held, slot, -⟩ := (State.takenLaw_iff.mp taken).listTaken c j (by rw [list]; exact List.mem_singleton_self j)
    have found : (s.requests.taken.find? fun h => h.slot == j).isSome = true :=
      List.find?_isSome.mpr ⟨x, held, by simpa using slot⟩
    have same : (s.begun k rest).heldOf j = s.heldOf j := by
      unfold State.heldOf State.begun
      rw [State.beginTake_requests, State.setFrame_requests, List.find?_append, Option.or_of_isSome found]
    dsimp only
    rw [same]

theorem State.othersPinned_begun (c : ChainNo) : (s.begun k rest).othersPinned c = s.othersPinned c := by
  unfold State.othersPinned State.countsPinned
  simp only [State.deferredSetChain_begun rest taken]
  rfl

theorem State.lengthsToFit_begun (c : ChainNo) : (s.begun k rest).lengthsToFit c = s.lengthsToFit c := by
  unfold State.lengthsToFit
  rw [State.deferredSetChain_begun rest taken]
  rfl

theorem State.checkSetChain_begun (r : Request) : (s.begun k rest).checkSetChain r = s.checkSetChain r := by
  unfold State.checkSetChain
  rw [State.othersPinned_begun rest taken]
  rfl

theorem State.checkSetGroup_begun (r : Request) : (s.begun k rest).checkSetGroup r = s.checkSetGroup r := by
  unfold State.checkSetGroup
  simp only [State.lengthsToFit_begun rest taken]
  rfl

end

/-! ## Statements about takes answered at once -/

theorem kindOf_none {b : Byte} (bad : b = 0 ∨ 8 ≤ b.toNat) : kindOf b = none := by
  revert b
  decide +kernel

/-- Settles O42: the checks read the part as it stood, and a refusal is answered in the take. -/
theorem refusedTakeChangesOnlyItsSlot : Obligations.RefusedTakeChangesOnlyItsSlot := by
  rintro s k rest r a c next law taken rfl refused
  suffices acts : exec c s = .next ((s.begun k rest).answer k a) ∧ a.payload = [] by
    obtain ⟨ran, plain⟩ := acts
    obtain ⟨answered, shows, kept⟩ := State.answer_begun next taken law (u := s.begun k rest) rfl (fun _ => rfl) rfl rfl a
    rw [plain] at shows
    exact ⟨_, ran, answered.trans (by rw [answered]; rfl), shows, kept⟩
  have takes {kind : Option Kind} := State.next_takeNext rest (kind := kind) next
  rcases refused with ⟨kind, rfl, check⟩ | ⟨kind, rfl, check⟩ | ⟨kind, rfl, check⟩ | ⟨kind, rfl, check⟩ |
    ⟨kind, rfl, check⟩ | ⟨kind, rfl, check⟩ | ⟨bad, rfl, rfl⟩
  · refine ⟨(takes (by rw [kind]; rfl)).trans ?_, s.checkSetChain_refuses _ a check⟩
    rw [State.act, State.actSetChain, State.checkSetChain_begun rest taken, check]
  · refine ⟨(takes (by rw [kind]; rfl)).trans ?_, s.checkReadChain_refuses _ a check⟩
    rw [State.act, State.actReadChain, show (s.begun k rest).checkReadChain _ = some a from check]
  · refine ⟨(takes (by rw [kind]; rfl)).trans ?_, s.checkParkChain_refuses _ a check⟩
    rw [State.act, State.actParkChain, show (s.begun k rest).checkParkChain _ = some a from check]
  · refine ⟨(takes (by rw [kind]; rfl)).trans ?_, s.checkSetGroup_refuses _ a check⟩
    rw [State.act, State.actSetGroup, State.checkSetGroup_begun rest taken, check]
  · refine ⟨(takes (by rw [kind]; rfl)).trans ?_, s.checkRearm_refuses _ a check⟩
    rw [State.act, State.actRearm, show (s.begun k rest).checkRearm _ = some a from check]
  · refine ⟨(takes (by rw [kind]; rfl)).trans ?_, s.checkDrop_refuses _ a check⟩
    rw [State.act, State.actDrop, show (s.begun k rest).checkDrop _ = some a from check]
  · exact ⟨takes (kindOf_none bad), rfl⟩

end Sys2Proof.Machine
end

section
/-! SUPPORT. The statements about accepted requests on groups and pages (R66 to R68, R104, R144 to R148). -/

namespace Sys2Proof.Machine

open Sys2Proof

/-! ## Parameters in range -/

theorem firstOutOfRange_eq_none {n : Nat} {ps : List Ranged} :
    firstOutOfRange n ps = none ↔ ∀ p ∈ ps, p.low ≤ p.value ∧ p.value ≤ p.high := by
  induction ps generalizing n with
  | nil => simp [firstOutOfRange]
  | cons p ps ih =>
    rw [firstOutOfRange, List.forall_mem_cons, ← ih (n := n + 1)]
    split
    · rename_i inside
      simp only [Bool.and_eq_true, decide_eq_true_eq] at inside
      simp [inside]
    · rename_i outside
      simp only [Bool.and_eq_true, decide_eq_true_eq] at outside
      simp [outside]

theorem rangeRefusal_eq_none {ps : List Ranged} :
    rangeRefusal ps = none ↔ ∀ p ∈ ps, p.low ≤ p.value ∧ p.value ≤ p.high := by
  rw [rangeRefusal, Option.map_eq_none_iff, firstOutOfRange_eq_none]

/-- SET_GROUP's group number in its range (R142). -/
theorem State.checkSetGroup_group {s : State} {r : Request} (passes : s.checkSetGroup r = none) : r.param 0 < 64 := by
  have inRange := rangeRefusal_eq_none.mp (firstRefusal_eq_none.mp passes _ List.mem_cons_self)
  have bounds := inRange ⟨r.param 0, 0, 63⟩ List.mem_cons_self
  exact Nat.lt_succ_of_le bounds.2

theorem Request.group_eq {r : Request} {n : GroupNo} (named : n.val = r.param 0) : r.group = n :=
  Fin.ext (by rw [Request.group, Fin.val_ofNat, ← named, Nat.mod_eq_of_lt n.isLt])

theorem Request.param16_eq (r : Request) (i : Nat) :
    r.param16 i = halfOf (BitVec.ofNat 8 (r.param i)) (BitVec.ofNat 8 (r.param (i + 1))) := by
  rw [Request.param, Request.param, BitVec.ofNat_toNat, BitVec.ofNat_toNat, BitVec.setWidth_eq, BitVec.setWidth_eq]
  rfl

/-! ## The window about a take -/

/-- A take's begin writes the owner code alone (R117). -/
theorem State.windowRead_begun {s : State} {k : SlotNo} (law : s.windowLaw) (rest : List SlotNo) {x : Nat}
    (other : x ≠ slotBase k) : (s.begun k rest).window.read x = s.window.read x :=
  (Memory.read_write law _ _ _).trans (if_neg other)

/-- An answer writes the part's bytes of its slot alone (R119). -/
theorem State.windowRead_answer {s : State} {k : SlotNo} (law : s.windowLaw) (a : Answer) {x : Nat}
    (outside : ¬ ownedByPart k x) : (s.answer k a).window.read x = s.window.read x :=
  (State.answeredWindow_read s k a law x).trans
    ((if_neg fun e => outside (.inl e)).trans (if_neg fun inside => outside (.inr (by omega))))

/-! ## The group records -/

theorem GroupRec.rearmed_eq (g : GroupRec) (pattern : Half) : g.rearmed pattern = { g with
    compare := pattern
    state := if g.state = .unset then .unset else if g.last = pattern &&& g.mask then .conform else .diverged } := by
  unfold GroupRec.rearmed
  cases g.state <;> rfl

/-- A byte of a group mirror entry (R185). -/
theorem State.windowByte_group (s : State) (n : GroupNo) {i : Nat} (inside : i < 8) :
    s.windowByte (0x480 + n.val * 8 + i) = (s.group n).mirror.getD i 0 := by
  have header : inHeaderDevice (0x480 + n.val * 8 + i) = false := by simp [inHeaderDevice]; omega
  have mirror : inMirror (0x480 + n.val * 8 + i) = true := by simp [inMirror]; omega
  have entry : (0x480 + n.val * 8 + i - 0x480) / 8 = n.val := by omega
  have place : (0x480 + n.val * 8 + i) % 8 = i := by omega
  unfold State.windowByte State.mirrorEntry
  rw [header, mirror, if_neg (by decide), if_pos rfl, if_neg (by omega), entry, place]
  rw [show Fin.ofNat 64 n.val = n from Fin.ext (Nat.mod_eq_of_lt n.isLt)]

/-- The record a SET_GROUP leaves: set silently from a primed image (R66). -/
def GroupRec.defining (g : GroupRec) (i : Image) : GroupRec := if i.primed then g.settleOn (g.masked i) else g

theorem State.define_eq (s : State) (r : Request) :
    s.define r = s.setGroup r.group (r.groupRec.defining (s.image r.groupRec.chain)) := by
  unfold State.define GroupRec.defining
  dsimp only
  split <;> rfl

/-- A group rewritten in a take that is answered OK. -/
theorem State.answer_setGroup {s : State} {k : SlotNo} {rest : List SlotNo} (next : s.nextTake k rest) (taken : s.takenLaw)
    (law : s.windowLaw) (n : GroupNo) (g : GroupRec) {t : State}
    (is : t = ((s.begun k rest).setGroup n g).answer k (Answer.plain .ok)) :
    t = { s with
      frame := { s.frame with sweep := rest }, groups := t.groups, window := t.window
      requests := { taken := s.requests.taken, cursor := k }
      alerts := { s.alerts with flags := s.alerts.flags ||| 0x04 } } ∧
    (∀ m, m ≠ n → t.group m = s.group m) ∧ t.group n = g ∧ t.showsAnswer k 0x00 0 s.run.stamp [] ∧ s.windowKeptBut t k := by
  obtain ⟨answered, shows, kept⟩ := State.answer_begun next taken law (u := (s.begun k rest).setGroup n g) rfl
    (fun _ => rfl) rfl rfl (Answer.plain .ok)
  rw [← is] at answered shows kept
  have groups (m : GroupNo) : t.group m = if m = n then g else s.group m := by
    rw [answered]
    exact State.group_setGroup ..
  exact ⟨answered.trans (by rw [answered]; rfl), fun m other => by rw [groups, if_neg other], by rw [groups, if_pos rfl],
    shows, kept⟩

/-! ## The statements -/

/-- Settles O48: the definition is installed whole and answered in the take. -/
theorem setGroupDefinesGroup : Obligations.SetGroupDefinesGroup := by
  intro s k rest r g next law taken request kind passes record
  have groupRec : r.groupRec = g := by
    rw [record, Request.groupRec, Request.param16_eq, Request.param16_eq]
    rfl
  have ran : exec .setGroup s =
      .next (((s.begun k rest).setGroup r.group (g.defining (s.image g.chain))).answer k (Answer.plain .ok)) := by
    refine (State.next_takeNext rest next (by rw [← request, kind]; rfl)).trans ?_
    rw [State.act, State.actSetGroup, ← request, State.checkSetGroup_begun rest taken, passes, State.define_eq, groupRec]
    rfl
  have number : r.group.val = r.param 0 := Nat.mod_eq_of_lt (State.checkSetGroup_group passes)
  obtain ⟨changes, others, own, shows, kept⟩ := State.answer_setGroup next taken law _ _ rfl
  refine ⟨_, ran, changes, fun n other => others n fun e => other (e ▸ number), fun unprimed n named => ?_,
    fun primed n named => ?_, shows, kept⟩
  · rw [← Request.group_eq named, own, GroupRec.defining, unprimed, if_neg (by decide)]
  · rw [← Request.group_eq named, own, GroupRec.defining, primed, if_pos rfl]
    rfl

/-- Settles O49: the group record is rewritten and the answer given in the take. -/
theorem rearmAndDropGroup : Obligations.RearmAndDropGroup := by
  intro s k rest r n next law taken request named
  have group := Request.group_eq named
  refine ⟨fun pattern kind passes same => ?_, fun kind passes => ?_⟩
  · have ran : exec .rearmGroup s =
        .next (((s.begun k rest).setGroup n ((s.group n).rearmed pattern)).answer k (Answer.plain .ok)) := by
      refine (State.next_takeNext rest next (by rw [← request, kind]; rfl)).trans ?_
      rw [State.act, State.actRearm, ← request, show (s.begun k rest).checkRearm _ = none from passes, group, same,
        ← Request.param16_eq]
      rfl
    obtain ⟨changes, others, own, shows, kept⟩ := State.answer_setGroup next taken law _ _ rfl
    exact ⟨_, ran, changes, others, own.trans (GroupRec.rearmed_eq _ _), shows, kept⟩
  · have ran : exec .dropGroup s =
        .next (((s.begun k rest).setGroup n GroupRec.reset).answer k (Answer.plain .ok)) := by
      refine (State.next_takeNext rest next (by rw [← request, kind]; rfl)).trans ?_
      rw [State.act, State.actDrop, ← request, show (s.begun k rest).checkDrop _ = none from passes, group]
    obtain ⟨changes, others, own, shows, kept⟩ := State.answer_setGroup next taken law _ _ rfl
    refine ⟨_, ran, changes, others, own, fun i inside => ?_, shows, kept⟩
    rw [State.windowByte_group _ n inside, own]
    interval_cases i <;> rfl

/-- Settles O50: with a page held the flush seals it before the answer. -/
theorem flushSealsCurrentPage : Obligations.FlushSealsCurrentPage := by
  intro s k rest next law taken kind
  have takes := State.next_takeNext rest next (kind := some .flush) (by rw [kind]; rfl)
  refine ⟨fun unheld => ?_, fun p held empty => ?_⟩
  · have ran : exec .flush s = .next ((s.begun k rest).answer k (Answer.plain .ok)) := by
      refine takes.trans ?_
      rw [State.act, State.actFlush, show (s.begun k rest).pages.current = none from unheld]
    obtain ⟨answered, shows, kept⟩ := State.answer_begun next taken law (u := s.begun k rest) rfl (fun _ => rfl) rfl rfl
      (Answer.plain .ok)
    exact ⟨_, ran, answered.trans (by rw [answered]; rfl), shows, kept⟩
  · have begunLaw : (s.begun k rest).windowLaw := Memory.wf_write law _ _
    have seals := State.closePage_of_empty (s := s.begun k rest) empty .flush
    have ran : exec .flush s = .next (((s.begun k rest).sealPage .flush).answer k
        { result := .ok, detail := 1, payload := wordBytes ((s.begun k rest).pageSeq p) }) := by
      refine takes.trans ?_
      rw [State.act, State.actFlush, show (s.begun k rest).pages.current = some p from held, ← seals]
    have slot := slotBase_le k
    have page := pageBase_le p
    have entry := entryBase_le p
    have seq : (s.begun k rest).pageSeq p = s.pageSeq p :=
      Memory.word_congr fun j less => State.windowRead_begun law rest (by omega)
    have count : (s.begun k rest).recordCount p = s.recordCount p := State.windowRead_begun law rest (by omega)
    rw [seq] at ran
    obtain ⟨wf, owner, _, _, _, sealedCount, cause, stamped, _⟩ := State.sealPage_sealed begunLaw .flush held
    have changes := State.sealPage_eq (s := s.begun k rest) .flush held
    rw [seq] at changes
    generalize (s.begun k rest).sealPage .flush = u at *
    have answered := State.answer_of_nextTake next taken (u := u) (by rw [changes]) (fun c => by rw [changes]; rfl)
      { result := .ok, detail := 1, payload := wordBytes (s.pageSeq p) }
    have shows := State.answer_shows wf k { result := .ok, detail := 1, payload := wordBytes (s.pageSeq p) }
    have stamp : u.run.stamp = s.run.stamp := by rw [changes]; rfl
    have read {x : Nat} (low : slotBase k + 48 ≤ x) := State.windowRead_answer (s := u) wf
      { result := .ok, detail := 1, payload := wordBytes (s.pageSeq p) }
      (show ¬ ownedByPart k x by unfold ownedByPart; omega)
    have flags : s.alerts.flags ||| 0x01 ||| 0x04 = s.alerts.flags ||| 0x05 := BitVec.or_assoc ..
    refine ⟨_, ran, ?_, stamp ▸ shows, (read (by omega)).trans owner, (read (by omega)).trans cause, ?_,
      ((read (by omega)).trans sealedCount).trans count⟩
    · generalize u.answer k _ = t at answered ⊢
      generalize u.answeredWindow k _ = w at answered
      rw [answered, ← flags, changes]
      rfl
    · rw [← show (s.begun k rest).run.stamp = s.run.stamp from rfl, ← stamped]
      exact Memory.word_congr fun j less => read (by omega)

end Sys2Proof.Machine
end

section
/-! SUPPORT. The statements about accepted requests on chains (R19 to R23, R33, R133 to R141). -/

namespace Sys2Proof.Machine

open Sys2Proof

/-! ## Joins -/

section
variable {s : State} {c : ChainNo}

theorem State.joinDue_of_due (due : c ∈ s.due) : s.joinDue c = s := if_pos (by simpa using due)

section
variable (notDue : c ∉ s.due)
include notDue

theorem State.joinDue_cold (cold : (s.chain c).state = .cold) :
    s.joinDue c = State.grantTest { s with due := s.due ++ [c] } := by
  unfold State.joinDue
  rw [if_neg (by simpa using notDue), cold]

theorem State.joinDue_warm (warm : (s.chain c).state = .warm) :
    s.joinDue c = State.readerChoice { s with due := s.due ++ [c] } := by
  unfold State.joinDue
  rw [if_neg (by simpa using notDue), warm]

/-- A chain that neither a grant nor a read start can follow only joins (R33). -/
theorem State.joinDue_waits (notCold : (s.chain c).state ≠ .cold) (notWarm : (s.chain c).state ≠ .warm) :
    s.joinDue c = { s with due := s.due ++ [c] } := by
  unfold State.joinDue
  rw [if_neg (by simpa using notDue)]
  cases state : (s.chain c).state
  case cold => exact absurd state notCold
  case warm => exact absurd state notWarm
  all_goals rfl

end

/-- An idle reader starts the read of the WARM chain earliest in the due queue (R36). -/
theorem State.readerChoice_starts {g : Geometry} (idle : s.read = none) (geometry : s.run.geometry = some g)
    (first : s.dueWarm = some c) : s.readerChoice = s.startRead g c := by
  unfold State.readerChoice
  rw [idle, geometry, first]

/-- The chain that joins is the one WARM chain due. -/
theorem State.dueWarm_last {l : List ChainNo} (due : s.due = l ++ [c]) (noneWarm : ∀ d ∈ l, (s.chain d).state ≠ .warm)
    (warm : (s.chain c).state = .warm) : s.dueWarm = some c := by
  have before : l.find? (fun d => (s.chain d).state == .warm) = none :=
    List.find?_eq_none.mpr fun d m => by simpa using noneWarm d m
  rw [State.dueWarm, due, List.find?_append, before]
  simp [warm]

/-- A chain that joined alone leaves with its read. -/
theorem filter_append_self {l : List ChainNo} (off : c ∉ l) : (l ++ [c]).filter (· != c) = l := by
  have kept : l.filter (· != c) = l := List.filter_eq_self.mpr fun d m => bne_iff_ne.mpr fun e => off (e ▸ m)
  simp [List.filter_append, kept]

/-- What a grant test leaves of queue and reader (R10). -/
theorem State.grantTest_due (s : State) : s.grantTest.due = s.due := by
  obtain ⟨⟨ch, l, same, -⟩, -⟩ := s.grantTest_changes
  rw [same]

theorem State.grantTest_read (s : State) : s.grantTest.read = s.read := by
  obtain ⟨⟨ch, l, same, -⟩, -⟩ := s.grantTest_changes
  rw [same]

end

/-! ## Statements -/

/-- The slot stands on its chain's list, nothing answered. -/
theorem State.slotOwner_begun {s : State} (law : s.windowLaw) (k : SlotNo) (rest : List SlotNo) :
    (s.begun k rest).slotOwner k = slotTaken := (Memory.read_write law _ _ _).trans (if_pos rfl)

/-- Settles O45: either request is deferred on a READING chain. -/
theorem requestOnReadingChainIsDeferred : Obligations.RequestOnReadingChainIsDeferred := by
  intro s k rest r c i next law taken request chain reading accepted
  have ran : exec i s = .next ((s.begun k rest).deferOn c k) := by
    rcases accepted with ⟨kind, rfl, passes⟩ | ⟨kind, rfl, passes⟩
    · refine (State.next_takeNext rest next (by rw [← request, kind]; rfl)).trans ?_
      rw [State.act, State.actSetChain, ← request, State.checkSetChain_begun rest taken, passes, ← chain]
      exact congrArg _ (if_pos reading)
    · refine (State.next_takeNext rest next (by rw [← request, kind]; rfl)).trans ?_
      rw [State.act, State.actParkChain, ← request, show (s.begun k rest).checkParkChain _ = none from passes, ← chain]
      exact congrArg _ (if_pos reading)
  refine ⟨_, ran, ?_, ?_, fun d other => ?_, State.slotOwner_begun law k rest,
    fun a other => State.windowRead_begun law rest other⟩
  · rw [request]
    rfl
  · rw [State.chain_deferOn, if_pos rfl]
    rfl
  · rw [State.chain_deferOn, if_neg other]
    rfl

/-- Settles O47. -/
theorem parkChainGoesCold : Obligations.ParkChainGoesCold := by
  intro s k rest r c next law taken request kind chain passes notReading
  have ran : exec .parkChain s = .next (((s.begun k rest).park c).answer k (Answer.plain .ok)) := by
    refine (State.next_takeNext rest next (by rw [← request, kind]; rfl)).trans ?_
    rw [State.act, State.actParkChain, ← request, show (s.begun k rest).checkParkChain _ = none from passes, ← chain]
    exact congrArg _ (if_neg notReading)
  obtain ⟨ch, l, parked, sub⟩ := (s.begun k rest).park_changes c
  have own : ((s.begun k rest).park c).chain c = (s.chain c).chilled .cold := State.chain_park_self ..
  have other {d : ChainNo} (apart : d ≠ c) := (s.begun k rest).chain_park_other apart
  generalize (s.begun k rest).park c = u at *
  obtain ⟨answered, shows, kept⟩ := State.answer_begun next taken law (u := u) (by rw [parked]) (fun d => by
    by_cases same : d = c
    · rw [same, own, ChainRec.chilled_waiting]
    · rw [other same]
      rfl) (by rw [parked]) (by rw [parked]; rfl) (Answer.plain .ok)
  generalize u.answer k (Answer.plain .ok) = t at *
  have chains (d : ChainNo) : t.chain d = u.chain d := by rw [answered]; rfl
  have lru : t.lru = l := by rw [answered, parked]
  have due : t.due = s.due.filter (· != c) := by rw [answered, parked]; rfl
  refine ⟨t, ran, ?_, (chains c).trans own, ?_, due, ?_, fun d apart => ?_, shows, kept⟩
  · rw [answered, parked]
    rfl
  · rw [State.excitation, chains, own, ChainRec.chilled_state]
    rfl
  · rw [lru]
    exact fun m => by simpa using sub.subset m
  · rw [chains, other apart]
    exact ⟨rfl, rfl, rfl⟩

/-- The LRU order after a reconfiguration holds the chain no more (R22). -/
theorem State.lru_reconfigure (s : State) (c : ChainNo) (d : ChainDef) :
    (s.reconfigure c d).lru.Sublist (s.lru.filter (· != c)) := by
  unfold State.reconfigure
  dsimp only
  split
  · obtain ⟨⟨ch, l, granted, sub⟩, -⟩ := State.grantTest_changes
      (((((s.chill c .off).leaveDue c).modChain c fun r => r.reconfigured d).unprime c).cancelExpiry c)
    rw [granted]
    exact sub
  · exact List.Sublist.refl _

/-- The record a SET_CHAIN leaves, field by field (R22, R131). -/
theorem ChainRec.reconfigured_eq (x : ChainRec) (r : Request) : (x.chilled .off).reconfigured r.chainDef = { x with
    defn := { enabled := r.param 1 == 1, length := 8 * r.param 2, settleTime := r.param 3, depth := r.param 4
              period := r.param 5, coolDown := r.param 6, faultLimit := r.param 7
              checkPattern := BitVec.ofNat 8 (r.param 8), pinned := r.param 9 == 1 }
    state := if r.param 1 = 1 then .cold else .off
    faultRun := 0, late := 0, reads := 0, idle := 0, lastRead := 0, settle := none
    stale := x.stale || x.settle == some 0
    periodCounter := if r.param 1 = 1 then 1 else 0 } := by
  have pattern : r.params.getD 8 0 = BitVec.ofNat 8 (r.param 8) := by
    rw [Request.param, BitVec.ofNat_toNat, BitVec.setWidth_eq]
  unfold ChainRec.reconfigured Request.chainDef
  simp only [beq_iff_eq, pattern]
  rfl

/-- Settles O44: the chain is reconfigured and the answer given in the take. -/
theorem setChainReconfigures : Obligations.SetChainReconfigures := by
  intro s k rest r c next law taken request kind chain passes notReading
  have ran : exec .setChain s = .next (((s.begun k rest).reconfigure c r.chainDef).answer k (Answer.plain .ok)) := by
    refine (State.next_takeNext rest next (by rw [← request, kind]; rfl)).trans ?_
    rw [State.act, State.actSetChain, ← request, State.checkSetChain_begun rest taken, passes, ← chain]
    exact congrArg _ (if_neg notReading)
  obtain ⟨ch, l, changed, -⟩ := (s.begun k rest).reconfigure_changes c r.chainDef
  have lru : ((s.begun k rest).reconfigure c r.chainDef).lru.Sublist (s.lru.filter (· != c)) :=
    State.lru_reconfigure ..
  have own : ((s.begun k rest).reconfigure c r.chainDef).chain c = ((s.chain c).chilled .off).reconfigured r.chainDef :=
    State.chain_reconfigure_self ..
  have other {d : ChainNo} (apart : d ≠ c) := (s.begun k rest).chain_reconfigure_other r.chainDef apart
  generalize (s.begun k rest).reconfigure c r.chainDef = u at *
  obtain ⟨answered, shows, kept⟩ := State.answer_begun next taken law (u := u) (by rw [changed]) (fun d => by
    by_cases same : d = c
    · rw [same, own]
      rfl
    · rw [other same]
      rfl) (by rw [changed]) (by rw [changed]; rfl) (Answer.plain .ok)
  generalize u.answer k (Answer.plain .ok) = t at *
  have chains (d : ChainNo) : t.chain d = u.chain d := by rw [answered]; rfl
  have sameLru : t.lru = u.lru := by rw [answered]
  have image (d : ChainNo) : t.image d = if d = c then Image.reset else s.image d := by
    rw [answered, changed]
    exact State.image_unprime (s.begun k rest) c d
  refine ⟨t, ran, ?_, ((chains c).trans own).trans (ChainRec.reconfigured_eq ..), ?_, ?_, fun d apart => ?_, fun n => ?_,
    fun d apart => ?_, shows, kept⟩
  · rw [answered, changed]
    rfl
  · rw [sameLru]
    exact fun m => by simpa using lru.subset m
  · rw [image, if_pos rfl]
  · rw [image, if_neg apart]
  · have group : t.group n = if (s.group n).defined && (s.group n).chain == c then (s.group n).unprimed else s.group n := by
      rw [answered, changed]
      exact State.group_unprime (s.begun k rest) c n
    rw [group]
    simp only [Bool.and_eq_true, beq_iff_eq]
    rfl
  · rw [chains, other apart]
    exact ⟨rfl, rfl, rfl, rfl, rfl, rfl, rfl⟩

/-- Settles O46: the slot is listed and the chain joins the due queue. -/
theorem readChainWaitsOnItsChain : Obligations.ReadChainWaitsOnItsChain := by
  intro s k rest r c l next law taken request kind chain passes list
  obtain ⟨u, listed⟩ : ∃ u, u = (s.begun k rest).modChain c fun x => { x with waiting := .reads (l ++ [k]) } := ⟨_, rfl⟩
  have ran : exec .readChain s = .next (u.joinDue c) := by
    have pushed : (s.begun k rest).modChain c (fun x => { x with waiting := x.waiting.push k }) = u := by
      rw [listed, State.modChain, State.modChain, show ((s.begun k rest).chain c).waiting = .reads l from list]
      rfl
    refine (State.next_takeNext rest next (by rw [← request, kind]; rfl)).trans ?_
    rw [State.act, State.actReadChain, ← request, show (s.begun k rest).checkReadChain _ = none from passes, ← chain]
    exact congrArg (fun x : State => Host.Outcome.next (x.joinDue c)) pushed
  have chains (d : ChainNo) : u.chain d = if d = c then { s.chain c with waiting := .reads (l ++ [k]) } else s.chain d := by
    rw [listed]
    exact State.chain_modChain ..
  obtain ⟨⟨ch, lru, q, rd, joined⟩, keeps⟩ := u.joinDue_changes c
  have window : (u.joinDue c).window = (s.begun k rest).window := by rw [joined, listed]; rfl
  have sameDue : u.due = s.due := by rw [listed]; rfl
  have sameRead : u.read = s.read := by rw [listed]; rfl
  have state : (u.chain c).state = (s.chain c).state := by rw [chains, if_pos rfl]
  refine ⟨_, ran, ?_, ?_, fun a other => ?_, ?_, fun d => ?_, fun due => ?_, fun notDue reading => ?_, fun notDue cold => ?_,
    fun notDue warm busy => ?_, fun notDue warm idle geometry noneWarm => ?_⟩
  · rw [joined, listed, request]
    rfl
  · rw [State.slotOwner, window]
    exact State.slotOwner_begun law k rest
  · rw [window]
    exact State.windowRead_begun law rest other
  · rw [keeps, chains, if_pos rfl]
  · rw [keeps, chains]
    split
    · rename_i same
      subst same
      exact ⟨rfl, rfl, fun apart => absurd rfl apart⟩
    · exact ⟨rfl, rfl, fun _ => rfl⟩
  · rw [State.joinDue_of_due (sameDue ▸ due)]
    exact ⟨sameDue, sameRead, by rw [listed]; rfl, by rw [chains, if_pos rfl]⟩
  · rw [State.joinDue_waits (sameDue ▸ notDue) (by rw [state, reading]; decide) (by rw [state, reading]; decide)]
    exact ⟨by rw [sameDue], sameRead⟩
  · rw [State.joinDue_cold (sameDue ▸ notDue) (state.trans cold), State.grantTest_due, State.grantTest_read]
    exact ⟨by rw [sameDue], sameRead⟩
  · rw [State.joinDue_warm (sameDue ▸ notDue) (state.trans warm), State.readerChoice_of_busy (by simpa [sameRead] using busy)]
    exact ⟨by rw [sameDue], sameRead⟩
  · obtain ⟨g, inForce⟩ := Option.isSome_iff_exists.mp geometry
    have first : State.dueWarm { u with due := u.due ++ [c] } = some c :=
      State.dueWarm_last (l := s.due) (by rw [sameDue]) (fun d m => by
        have apart : d ≠ c := fun e => notDue (e ▸ m)
        show (u.chain d).state ≠ _
        rw [chains, if_neg apart]
        exact noneWarm d m) (state.trans warm)
    rw [State.joinDue_warm (sameDue ▸ notDue) (state.trans warm),
      State.readerChoice_starts (s := { u with due := u.due ++ [c] })
      (sameRead.trans idle) (g := g) (by rw [listed]; exact inForce) first]
    refine ⟨?_, ?_, ?_⟩
    · rw [← filter_append_self notDue, ← sameDue]
      rfl
    · rw [State.chain_startRead, if_pos rfl]
    · have attached : (u.chain c).waiting.slots = l ++ [k] := by rw [chains, if_pos rfl]; rfl
      rw [← attached]
      rfl

end Sys2Proof.Machine
end

section
/-! SUPPORT. The checks of the requests in their order (R129 to R147). -/

namespace Sys2Proof.Machine

open Sys2Proof

/-! ## Parameters and their ranges -/

/-- The first parameters of a request with the ends of their ranges (R129). -/
def Request.ranged (r : Request) (ranges : List (Nat × Nat)) : List Ranged :=
  ranges.zipIdx.map fun x => ⟨r.param x.2, x.1.1, x.1.2⟩

theorem Request.ranged_getElem? (r : Request) {ranges : List (Nat × Nat)} {i lo hi : Nat}
    (at_i : ranges[i]? = some (lo, hi)) : (r.ranged ranges)[i]? = some ⟨r.param i, lo, hi⟩ := by
  rw [Request.ranged, List.getElem?_map, List.getElem?_zipIdx, at_i]
  simp

theorem Request.mem_ranged {r : Request} {ranges : List (Nat × Nat)} {p : Ranged} :
    p ∈ r.ranged ranges ↔ ∃ i lo hi, ranges[i]? = some (lo, hi) ∧ p = ⟨r.param i, lo, hi⟩ := by
  constructor
  · intro m
    obtain ⟨i, at_i⟩ := List.mem_iff_getElem?.mp m
    cases range : ranges[i]? with
    | none => simp [Request.ranged, List.getElem?_zipIdx, range] at at_i
    | some x =>
      refine ⟨i, x.1, x.2, range, ?_⟩
      rw [Request.ranged_getElem? r range] at at_i
      exact (Option.some_inj.mp at_i).symm
  · rintro ⟨i, lo, hi, range, rfl⟩
    exact List.mem_iff_getElem?.mpr ⟨i, Request.ranged_getElem? r range⟩

/-- The first parameter out of its range is number `n`, counted from `m`. -/
theorem firstOutOfRange_eq {ps : List Ranged} {m n : Nat} {p : Ranged} (bad : ps[n]? = some p)
    (out : ¬ (p.low ≤ p.value ∧ p.value ≤ p.high))
    (good : ∀ i q, i < n → ps[i]? = some q → q.low ≤ q.value ∧ q.value ≤ q.high) : firstOutOfRange m ps = some (m + n) := by
  induction ps generalizing m n with
  | nil => cases bad
  | cons q ps ih =>
    rw [firstOutOfRange]
    cases n with
    | zero =>
      rw [List.getElem?_cons_zero, Option.some_inj] at bad
      rw [bad, if_neg (by simpa using out), Nat.add_zero]
    | succ n =>
      have first := good 0 q (Nat.succ_pos n) rfl
      rw [if_pos (by simpa using first), ih (n := n) bad fun i q less => good (i + 1) q (Nat.succ_lt_succ less)]
      exact congrArg some (by omega)

/-- A request's ranges: those of its single bytes, and then 16-bit fields that take every value. -/
def Request.Ranges (r : Request) (ps : List Ranged) (ranges : List (Nat × Nat)) : Prop :=
  ∃ wide : List Ranged, ps = r.ranged ranges ++ wide ∧ ∀ p ∈ wide, p.low ≤ p.value ∧ p.value ≤ p.high

section
variable {r : Request} {ps : List Ranged} {ranges : List (Nat × Nat)} (h : r.Ranges ps ranges)
include h

theorem Request.Ranges.refuses {n : Nat} (earlier : ∀ i lo hi, i < n → ranges[i]? = some (lo, hi) →
    lo ≤ r.param i ∧ r.param i ≤ hi) (out : ∀ lo hi, ranges[n]? = some (lo, hi) → ¬ (lo ≤ r.param n ∧ r.param n ≤ hi))
    (inside : n < ranges.length) : rangeRefusal ps = some ⟨.range, BitVec.ofNat 8 (n + 1), []⟩ := by
  obtain ⟨wide, rfl, -⟩ := h
  have length : (r.ranged ranges).length = ranges.length := by simp [Request.ranged]
  have at_i {i : Nat} (less : i < ranges.length) : (r.ranged ranges ++ wide)[i]? =
      some ⟨r.param i, ranges[i].1, ranges[i].2⟩ := by
    rw [List.getElem?_append_left (by omega)]
    exact r.ranged_getElem? (List.getElem?_eq_getElem less)
  have first : firstOutOfRange 1 (r.ranged ranges ++ wide) = some (1 + n) :=
    firstOutOfRange_eq (at_i inside) (out _ _ (List.getElem?_eq_getElem inside)) fun i q less found => by
      have bound : i < ranges.length := by omega
      rw [at_i bound, Option.some_inj] at found
      rw [← found]
      exact earlier i _ _ less (List.getElem?_eq_getElem bound)
  rw [rangeRefusal, first, Nat.add_comm 1 n]
  rfl

theorem Request.Ranges.passes (all : ∀ i lo hi, ranges[i]? = some (lo, hi) → lo ≤ r.param i ∧ r.param i ≤ hi) :
    rangeRefusal ps = none := by
  obtain ⟨wide, rfl, free⟩ := h
  refine rangeRefusal_eq_none.mpr fun p m => ?_
  rcases List.mem_append.mp m with m | m
  · obtain ⟨i, lo, hi, range, rfl⟩ := Request.mem_ranged.mp m
    exact all i lo hi range
  · exact free p m

end

section
variable (r : Request)

theorem Half.inRange (h : Half) : 0 ≤ h.toNat ∧ h.toNat ≤ 0xFFFF := ⟨Nat.zero_le _, Nat.le_of_lt_succ h.isLt⟩

theorem Request.setChain_ranges : r.Ranges r.setChainRanges
    [(0, 15), (0, 1), (1, 16), (1, 255), (1, 8), (0, 255), (0, 255), (1, 7), (1, 254), (0, 1)] := ⟨[], rfl, by simp⟩

theorem Request.readChain_ranges : r.Ranges r.readChainRanges [(0, 15), (0, 1)] := ⟨[], rfl, by simp⟩

theorem Request.parkChain_ranges : r.Ranges r.parkChainRanges [(0, 15)] := ⟨[], rfl, by simp⟩

theorem Request.setGroup_ranges : r.Ranges r.setGroupRanges [(0, 63), (0, 15), (0, 127), (1, 16), (0, 3), (0, 3)] := by
  refine ⟨[⟨(r.param16 6).toNat, 0, 0xFFFF⟩, ⟨(r.param16 8).toNat, 0, 0xFFFF⟩], rfl, fun p m => ?_⟩
  simp only [List.mem_cons, List.not_mem_nil, or_false] at m
  rcases m with rfl | rfl <;> exact Half.inRange _

theorem Request.rearm_ranges : r.Ranges r.rearmRanges [(0, 63)] := by
  refine ⟨[⟨(r.param16 1).toNat, 0, 0xFFFF⟩], rfl, fun p m => ?_⟩
  rw [List.mem_singleton.mp m]
  exact Half.inRange _

theorem Request.drop_ranges : r.Ranges r.dropRanges [(0, 63)] := ⟨[], rfl, by simp⟩

end

/-! ## The checks in order -/

theorem firstRefusal_none (rest : List (Option Answer)) : firstRefusal (none :: rest) = firstRefusal rest := rfl

theorem firstRefusal_failWhen (b : Bool) (a : Answer) (rest : List (Option Answer)) :
    firstRefusal (failWhen b a :: rest) = if b = true then some a else firstRefusal rest := by
  cases b <;> rfl

/-- A bit at or above the width (R143, R145). -/
theorem bitsBeyond_iff (h : Half) (width : Nat) :
    bitsBeyond h width = true ↔ ∃ i : Fin 16, width ≤ i.val ∧ h.getLsbD i.val = true := by
  rw [bitsBeyond, bne_iff_ne]
  constructor
  · intro some
    by_contra none
    refine some (BitVec.eq_of_getLsbD_eq fun i less => ?_)
    refine (BitVec.getLsbD_ushiftRight ..).trans (Eq.trans ?_ BitVec.getLsbD_zero.symm)
    by_contra set
    rw [Bool.not_eq_false] at set
    exact none ⟨⟨width + i, BitVec.lt_of_getLsbD set⟩, Nat.le_add_right .., set⟩
  · rintro ⟨i, beyond, set⟩ zero
    have bit := congrArg (BitVec.getLsbD · (i.val - width)) zero
    rw [BitVec.getLsbD_ushiftRight, Nat.add_sub_cancel' beyond, set] at bit
    exact absurd (bit.trans BitVec.getLsbD_zero) (by decide)

theorem kindOf_setChain {b : Byte} : kindOf b = some .setChain ↔ b = 0x01 := by
  revert b
  decide +kernel

/-- The deferred SET_CHAIN of a chain is the request held for its marker (R130). -/
theorem State.deferredSetChain_eq_some {s : State} (taken : s.takenLaw) {c : ChainNo} {r : Request} :
    s.deferredSetChain c = some r ↔ ∃ h ∈ s.requests.taken, (s.chain c).waiting = .deferred h.slot ∧ h.request = r ∧
      h.request.kind = 0x01 := by
  have nodup := (State.takenLaw_iff.mp taken).slotsNodup
  unfold State.deferredSetChain
  cases list : (s.chain c).waiting with
  | reads l => simp
  | deferred k =>
    dsimp only
    rw [Option.filter_eq_some_iff, beq_iff_eq, kindOf_setChain]
    constructor
    · rintro ⟨held, kind⟩
      exact ⟨⟨k, r⟩, State.mem_of_heldOf held, rfl, rfl, kind⟩
    · rintro ⟨h, m, marker, rfl, kind⟩
      cases marker
      exact ⟨State.heldOf_of_mem nodup m, kind⟩

theorem WaitList.busy_iff {w : WaitList} : w.busy = true ↔ w ≠ .reads [] := by
  cases w with
  | reads l => simp [WaitList.busy]
  | deferred k => simp [WaitList.busy]

theorem Request.pinned_iff (r : Request) : r.chainDef.pinned = true ↔ r.param 9 = 1 := beq_iff_eq

/-- The chains that count as pinned but one, as a list (R133). -/
theorem State.othersPinned_list {s : State} (taken : s.takenLaw) (c : ChainNo) :
    ∃ others : List ChainNo, others.Nodup ∧ others.length = s.othersPinned c ∧
      ∀ d : ChainNo, d ∈ others ↔ d ≠ c ∧ ((s.chain d).defn.pinned = true ∨
        ∃ h ∈ s.requests.taken, (s.chain d).waiting = .deferred h.slot ∧ h.request.kind = 0x01 ∧
          h.request.param 9 = 1) := by
  refine ⟨allChains.filter fun d => d != c && s.countsPinned d, allChains_nodup.filter _, List.countP_eq_length_filter.symm,
    fun d => ?_⟩
  have counts : s.countsPinned d = true ↔ ((s.chain d).defn.pinned = true ∨
      ∃ h ∈ s.requests.taken, (s.chain d).waiting = .deferred h.slot ∧ h.request.kind = 0x01 ∧ h.request.param 9 = 1) := by
    unfold State.countsPinned
    rw [Bool.or_eq_true]
    refine or_congr Iff.rfl ?_
    cases deferred : s.deferredSetChain d with
    | none =>
      refine iff_of_false (by simp) ?_
      rintro ⟨h, m, marker, kind, -⟩
      rw [(State.deferredSetChain_eq_some taken).mpr ⟨h, m, marker, rfl, kind⟩] at deferred
      cases deferred
    | some r =>
      obtain ⟨h, m, marker, rfl, kind⟩ := (State.deferredSetChain_eq_some taken).mp deferred
      refine (Request.pinned_iff _).trans ⟨fun pin => ⟨h, m, marker, kind, pin⟩, ?_⟩
      rintro ⟨x, held, mark, kindX, pin⟩
      have same := (State.deferredSetChain_eq_some taken).mpr ⟨x, held, mark, rfl, kindX⟩
      rw [deferred, Option.some_inj] at same
      rwa [same]
  simp [List.mem_filter, mem_allChains, counts]

theorem allGroups_length : allGroups.length = 64 := List.length_ofFn

theorem allGroups_getElem {i : Nat} (inside : i < allGroups.length) :
    allGroups[i] = ⟨i, allGroups_length ▸ inside⟩ := List.getElem_ofFn ..

/-- The lowest group beyond a length (R132). -/
theorem State.groupBeyond_first (s : State) (c : ChainNo) (l : Nat) (beyond : GroupNo → Prop)
    (isBeyond : ∀ n, beyond n ↔ (s.group n).defined = true ∧ (s.group n).chain = c ∧
      l < (s.group n).base + (s.group n).width) :
    (s.groupBeyond c l = none ↔ ∀ n, ¬ beyond n) ∧
    ∀ n, s.groupBeyond c l = some n ↔ beyond n ∧ ∀ m, m < n → ¬ beyond m := by
  have test (n : GroupNo) : ((s.group n).defined && (s.group n).chain == c &&
      decide (l < (s.group n).base + (s.group n).width)) = true ↔ beyond n := by
    rw [isBeyond]
    simp [and_assoc]
  unfold State.groupBeyond
  constructor
  · rw [List.find?_eq_none]
    exact ⟨fun none n b => none n (mem_allGroups n) ((test n).mpr b), fun none n _ b => none n ((test n).mp b)⟩
  · intro n
    rw [List.find?_eq_some_iff_getElem, test]
    refine and_congr_right fun _ => ⟨?_, fun none => ?_⟩
    · rintro ⟨i, inside, at_i, earlier⟩ m less
      rw [allGroups_getElem] at at_i
      have before := earlier m.val (by rw [← at_i] at less; exact less)
      rw [allGroups_getElem, Bool.not_eq_true', Bool.eq_false_iff] at before
      exact mt (test m).mpr before
    · refine ⟨n.val, allGroups_length.symm ▸ n.isLt, allGroups_getElem _, fun j less => ?_⟩
      rw [allGroups_getElem, Bool.not_eq_true', Bool.eq_false_iff]
      exact mt (test _).mp (none _ (Fin.lt_def.mpr less))

/-- The lengths a new group must fit (R143). -/
theorem State.mem_lengthsToFit {s : State} (taken : s.takenLaw) (d : ChainNo) (l : Nat) :
    l ∈ s.lengthsToFit d ↔ l = (s.chain d).defn.length ∨
      ∃ h ∈ s.requests.taken, (s.chain d).waiting = .deferred h.slot ∧ h.request.kind = 0x01 ∧
        l = 8 * h.request.param 2 := by
  unfold State.lengthsToFit
  rw [List.mem_cons]
  refine or_congr Iff.rfl ?_
  cases deferred : s.deferredSetChain d with
  | none =>
    refine iff_of_false (by simp) ?_
    rintro ⟨h, m, marker, kind, -⟩
    rw [(State.deferredSetChain_eq_some taken).mpr ⟨h, m, marker, rfl, kind⟩] at deferred
    cases deferred
  | some r =>
    obtain ⟨h, m, marker, rfl, kind⟩ := (State.deferredSetChain_eq_some taken).mp deferred
    refine List.mem_singleton.trans ⟨fun same => ⟨h, m, marker, kind, same⟩, ?_⟩
    rintro ⟨x, held, mark, kindX, same⟩
    have one := (State.deferredSetChain_eq_some taken).mpr ⟨x, held, mark, rfl, kindX⟩
    rw [deferred, Option.some_inj] at one
    rw [same, one]
    rfl

/-- Settles O43: each kind's checks, in the order of its list. -/
theorem requestChecksInOrder : Obligations.RequestChecksInOrder := by
  intro s r c chain
  refine ⟨fun n ranges check which earlier out inside => ?_, fun ranges found which all => ?_, fun taken => ?_,
    fun l beyond isBeyond => ?_, fun taken d l => ?_, fun inRange => ?_, fun inRange => ?_, fun inRange => ?_,
    fun inRange => ?_, fun inRange => ?_, fun inRange => ?_⟩
  · have first {ps : List Ranged} {others : List (Option Answer)} (h : r.Ranges ps ranges) :
        firstRefusal (rangeRefusal ps :: others) = some ⟨.range, BitVec.ofNat 8 (n + 1), []⟩ := by
      rw [h.refuses earlier out inside]
      rfl
    rcases which with ⟨rfl, rfl⟩ | ⟨rfl, rfl⟩ | ⟨rfl, rfl⟩ | ⟨rfl, rfl⟩ | ⟨rfl, rfl⟩ | ⟨rfl, rfl⟩
    · exact first r.setChain_ranges
    · exact first r.readChain_ranges
    · exact first r.parkChain_ranges
    · exact first r.setGroup_ranges
    · exact first r.rearm_ranges
    · exact first r.drop_ranges
  · rcases which with ⟨rfl, rfl⟩ | ⟨rfl, rfl⟩ | ⟨rfl, rfl⟩ | ⟨rfl, rfl⟩ | ⟨rfl, rfl⟩ | ⟨rfl, rfl⟩
    · exact r.setChain_ranges.passes all
    · exact r.readChain_ranges.passes all
    · exact r.parkChain_ranges.passes all
    · exact r.setGroup_ranges.passes all
    · exact r.rearm_ranges.passes all
    · exact r.drop_ranges.passes all
  · exact State.othersPinned_list taken c
  · exact s.groupBeyond_first c l beyond isBeyond
  · exact State.mem_lengthsToFit taken d l
  · subst chain
    unfold State.checkSetChain
    rw [inRange, firstRefusal_none, firstRefusal_failWhen]
    have pin : (r.chainDef.pinned && decide (s.warmLimit - 1 ≤ s.othersPinned r.chain)) = true ↔
        r.param 9 = 1 ∧ s.warmLimit - 1 ≤ s.othersPinned r.chain := by
      rw [Bool.and_eq_true, Request.pinned_iff, decide_eq_true_eq]
    have fits : r.chainDef.length = 8 * r.param 2 := rfl
    simp only [pin, fits]
    cases s.groupBeyond r.chain (8 * r.param 2) with
    | some n => rfl
    | none =>
      rw [Option.map_none, firstRefusal_none, firstRefusal_failWhen]
      simp only [WaitList.busy_iff]
      rfl
  · subst chain
    unfold State.checkReadChain
    simp only [inRange, firstRefusal_none, firstRefusal_failWhen, beq_iff_eq]
    cases (s.chain r.chain).waiting <;> rfl
  · subst chain
    unfold State.checkParkChain
    simp only [inRange, firstRefusal_none, firstRefusal_failWhen, beq_iff_eq, WaitList.busy_iff]
    rfl
  · unfold State.checkSetGroup
    simp only [inRange, firstRefusal_none, firstRefusal_failWhen, beq_iff_eq, bitsBeyond_iff, List.any_eq_true,
      decide_eq_true_eq]
    rfl
  · unfold State.checkRearm
    simp only [inRange, firstRefusal_none, firstRefusal_failWhen, bitsBeyond_iff, Bool.not_eq_true']
    rfl
  · unfold State.checkDrop
    simp only [inRange, firstRefusal_none, firstRefusal_failWhen, Bool.not_eq_true']
    rfl

end Sys2Proof.Machine
end

section
/-! SUPPORT. The statements about expiries, cool-down, settling, grants and the read's start (R7 to R13, R29 to R39). -/

namespace Sys2Proof.Machine

open Sys2Proof

/-! ## The first of a list -/

theorem find?_eq_some_of_first {α : Type} {p : α → Bool} {l before after : List α} {x : α} (list : l = before ++ x :: after)
    (none : ∀ y ∈ before, p y = false) (hit : p x = true) : l.find? p = some x := by
  have skipped : before.find? p = .none := List.find?_eq_none.mpr fun y m => by rw [none y m]; decide
  rw [list, List.find?_append, skipped, Option.none_or, List.find?_cons_of_pos hit]

theorem find?_eq_some_of_only {α : Type} {p : α → Bool} {l : List α} {x : α} (member : x ∈ l) (hit : p x = true)
    (only : ∀ y ∈ l, p y = true → y = x) : l.find? p = some x := by
  cases found : l.find? p with
  | none => exact absurd hit (List.find?_eq_none.mp found x member)
  | some y => rw [only y (List.mem_of_find?_eq_some found) (List.find?_some found)]

/-! ## Grants -/

section
variable {s : State} {c : ChainNo}

/-- The grant below the warm limit (R9). -/
theorem State.grantOne_below (first : s.dueCold = some c) (below : s.warmCount < s.warmLimit) :
    s.grantOne = some (s.excite c) := by
  unfold State.grantOne
  rw [first]
  exact if_pos below

/-- The grant in place of a victim (R9). -/
theorem State.grantOne_victim {v : ChainNo} (first : s.dueCold = some c) (full : s.warmLimit ≤ s.warmCount)
    (victim : s.victim = some v) : s.grantOne = some ((s.chill v .cold).excite c) := by
  unfold State.grantOne
  rw [first, victim]
  exact if_neg (Nat.not_lt.mpr full)

theorem State.grantOne_none (full : s.warmLimit ≤ s.warmCount) (noVictim : s.victim = none) : s.grantOne = none := by
  unfold State.grantOne
  rw [noVictim]
  cases s.dueCold with
  | none => rfl
  | some d => exact if_neg (Nat.not_lt.mpr full)

/-- The one COLD chain due is granted at once while a place is free (R9, R10). -/
theorem State.grantTest_only (due : c ∈ s.due) (cold : (s.chain c).state = .cold)
    (only : ∀ d ∈ s.due, (s.chain d).state = .cold → d = c) (below : s.warmCount < s.warmLimit) :
    s.grantTest = s.excite c := by
  have first : s.dueCold = some c :=
    find?_eq_some_of_only due (by simpa using cold) fun d m cold => only d m (by simpa using cold)
  have noneLeft : ∀ d ∈ (s.excite c).due, ((s.excite c).chain d).state ≠ .cold := fun d m => by
    rw [State.chain_excite]
    split
    · exact ChainState.noConfusion
    · rename_i apart
      exact fun cold => apart (only d m cold)
  have stops : (s.excite c).dueCold = none := List.find?_eq_none.mpr fun d m => by simpa using noneLeft d m
  have halts : (s.excite c).grantOne = none := by
    unfold State.grantOne
    rw [stops]
  rw [State.grantTest, State.grantLoop, State.grantOne_below first below]
  dsimp only
  rw [State.grantLoop, halts]

theorem State.eligible_eq_false {d : ChainNo} (h : (s.chain d).state ≠ .warm ∨ (s.chain d).defn.pinned = true ∨ d ∈ s.due) :
    s.eligible d = false := by
  unfold State.eligible
  rcases h with notWarm | pinned | due
  · simp [notWarm]
  · simp [pinned]
  · simp [due]

/-- Settles O25: the grant follows its condition. -/
theorem grantServesEarliestColdChain : Obligations.GrantServesEarliestColdChain := by
  intro s before after c due noneBefore cold
  have first : s.dueCold = some c :=
    find?_eq_some_of_first due (fun d m => by simpa using noneBefore d m) (by simpa using cold)
  have exec_of {t : State} (grant : s.grantOne = some t) : exec .excitationGrant s = .next t := by
    show execExcitationGrant s = _
    rw [execExcitationGrant, grant]
  refine ⟨fun below => ?_, fun older newer v full lru noneOlder warm unpinned notDue => ?_, fun full noneEligible => ?_⟩
  · refine ⟨_, exec_of (State.grantOne_below first below), rfl, ?_, fun d apart => ?_⟩
    · rw [State.chain_excite, if_pos rfl]
      rfl
    · rw [State.chain_excite, if_neg apart]
  · have victim : s.victim = some v := find?_eq_some_of_first lru
      (fun d m => State.eligible_eq_false (noneOlder d m)) (by simp [State.eligible, warm, unpinned, notDue])
    have apart : c ≠ v := fun same => by rw [same, warm] at cold; cases cold
    refine ⟨_, exec_of (State.grantOne_victim first full victim), rfl,
      ⟨(s.chain v).stale || (s.chain v).settle == some 0, ?_⟩,
      ?_, fun d notC notV => ?_⟩
    · rw [State.chain_excite, if_neg apart.symm, State.chain_chill, if_pos rfl]
      rfl
    · rw [State.chain_excite, if_pos rfl, State.chain_chill, if_neg apart]
      rfl
    · rw [State.chain_excite, if_neg notC, State.chain_chill, if_neg notV]
  · have noVictim : s.victim = none := List.find?_eq_none.mpr fun d m => by
      rw [State.eligible_eq_false (noneEligible d m)]
      decide
    show execExcitationGrant s = _
    rw [execExcitationGrant, State.grantOne_none full noVictim]

end

/-! ## The read's start and its bits -/

/-- Settles O26: the reader's choice, and one bit time by its three cases. -/
theorem readStartsAndSamplesItsBits : Obligations.ReadStartsAndSamplesItsBits := by
  intro s
  refine ⟨fun before after c g idle geometry due noneBefore warm => ?_, fun rd inputs reading => ?_⟩
  · have first : s.dueWarm = some c :=
      find?_eq_some_of_first due (fun d m => by simpa using noneBefore d m) (by simpa using warm)
    refine ⟨_, congrArg Host.Outcome.next (State.readerChoice_starts idle geometry first), rfl, ?_, fun d apart => ?_, rfl,
      rfl, rfl⟩
    · rw [State.chain_startRead, if_pos rfl]
    · rw [State.chain_startRead, if_neg apart]
  · have ran : exec (.bitTime inputs) s = .next { s with read := some (rd.bit inputs) } := by
      show execBitTime inputs s = _
      rw [execBitTime, reading]
    rw [ran]
    cases loading : rd.loading with
    | true =>
      have bit : rd.bit inputs = { rd with loading := false, clockHigh := false, elapsed := rd.bitTime } := if_pos loading
      rw [bit]
      exact ⟨_, _, rfl, rfl, rfl, rfl, rfl, rfl, fun _ => ⟨rfl, rfl, rfl⟩, nofun, nofun⟩
    | false =>
      by_cases more : rd.received.length < rd.length + 8
      · have bit : rd.bit inputs = { rd with
            received := rd.received ++ [inputs.getLsbD rd.chain.val], clockHigh := true
            elapsed := rd.bitTime * (rd.received.length + 1) + rd.bitTime / 2 } := by
          rw [ReadInProgress.bit, loading, if_neg (by decide), if_pos more]
        rw [bit]
        exact ⟨_, _, rfl, rfl, rfl, rfl, rfl, rfl, nofun, fun _ _ => ⟨rfl, loading, rfl⟩, fun _ whole => by omega⟩
      · have bit : rd.bit inputs = rd := by rw [ReadInProgress.bit, loading, if_neg (by decide), if_neg more]
        rw [bit]
        exact ⟨_, _, rfl, rfl, rfl, rfl, rfl, rfl, nofun, fun _ less => absurd less more, fun _ _ => rfl⟩

/-! ## Settling -/

/-- Settles O24: the completion by whether it is stale, whether the chain is SETTLING and whether the reader is idle. -/
theorem settleCompletionMakesWarm : Obligations.SettleCompletionMakesWarm := by
  intro s c
  refine ⟨fun stale => ?_, fun fresh notSettling => ?_, fun fresh settling busy => ?_,
    fun fresh settling idle geometry due noneWarm => ?_⟩
  · have ran : exec (.settleCompletion c) s = .next (s.modChain c fun r => { r with stale := false }) := if_pos stale
    refine ⟨_, ran, rfl, ?_, fun d apart => ?_⟩
    · rw [State.chain_modChain, if_pos rfl]
    · rw [State.chain_modChain, if_neg apart]
  · exact (if_neg (by simp [fresh])).trans (if_neg notSettling)
  all_goals
    obtain ⟨u, warmed⟩ : ∃ u : State, u = { s.modChain c (fun r => { r with state := .warm, settle := none, idle := 0 }) with
      lru := s.lru ++ [c] } := ⟨_, rfl⟩
    have chains (d : ChainNo) : u.chain d =
        if d = c then { s.chain c with state := .warm, settle := none, idle := 0 } else s.chain d := by
      rw [warmed]
      exact State.chain_modChain s c d fun r => { r with state := .warm, settle := none, idle := 0 }
    have ran : exec (.settleCompletion c) s = .next u.readerChoice :=
      (if_neg (by simp [fresh])).trans ((if_pos settling).trans (by rw [warmed]; rfl))
  · rw [State.readerChoice_of_busy (by rw [warmed]; exact busy)] at ran
    exact ⟨u, ran, by rw [warmed]; rfl, by rw [chains, if_pos rfl], fun d apart => by rw [chains, if_neg apart]⟩
  · obtain ⟨g, inForce⟩ := Option.isSome_iff_exists.mp geometry
    have first : u.dueWarm = some c := by
      refine find?_eq_some_of_only (by rw [warmed]; exact due) (by simp [chains]) fun d m warm => ?_
      by_contra apart
      rw [chains, if_neg apart, beq_iff_eq] at warm
      exact noneWarm d (by rw [warmed] at m; exact m) warm
    rw [State.readerChoice_starts (by rw [warmed]; exact idle) (by rw [warmed]; exact inForce) first] at ran
    refine ⟨_, ran, ?_, ?_, ?_, ?_, rfl, fun d apart => ?_⟩
    · rw [warmed]
      rfl
    · rw [State.chain_startRead, if_pos rfl, chains, if_pos rfl]
    · exact fun m => by simpa using (List.mem_filter.mp m).2
    · exact fun m => by simpa using (List.mem_filter.mp m).2
    · rw [State.chain_startRead, if_neg apart, chains, if_neg apart]

/-! ## Expiries and cool-down -/

theorem State.coolable_iff {s : State} {c : ChainNo} : s.coolable c = true ↔
    (s.chain c).state = .warm ∧ (s.chain c).defn.pinned = false ∧ c ∉ s.due ∧ 0 < (s.chain c).defn.coolDown := by
  simp [State.coolable, and_assoc]

/-- Settles O22: the examination by R13's four conditions. -/
theorem idleCoolDownCountsFrames : Obligations.IdleCoolDownCountsFrames := by
  intro s c outstanding
  obtain ⟨u, begun⟩ : ∃ u : State, u = s.setFrame { s.frame with coolDowns := s.frame.coolDowns.filter (· != c) } := ⟨_, rfl⟩
  have ran : exec (.idleCoolDown c) s = .next (u.examine c) := by
    rw [begun]
    exact if_pos (by simpa using outstanding)
  have chain (d : ChainNo) : u.chain d = s.chain d := by rw [begun]; rfl
  have due : u.due = s.due := by rw [begun]; rfl
  have coolable : u.coolable c = true ↔ (s.chain c).state = .warm ∧ (s.chain c).defn.pinned = false ∧ c ∉ s.due ∧
      0 < (s.chain c).defn.coolDown := by rw [State.coolable_iff, chain, due]
  by_cases cools : u.coolable c = true
  · have conditions := coolable.mp cools
    by_cases more : (s.chain c).idle + 1 < (s.chain c).defn.coolDown
    · have examined : u.examine c = u.modChain c fun r => { r with idle := r.idle + 1 } :=
        (if_pos cools).trans (if_pos (by rwa [chain]))
      rw [ran, examined]
      refine ⟨_, rfl, by rw [begun]; rfl, fun _ => ⟨fun _ => ⟨by rw [begun]; rfl, ?_, fun d apart => ?_⟩,
        fun full => by omega⟩,
        fun not => absurd conditions not⟩
      · rw [State.chain_modChain, if_pos rfl, chain]
      · rw [State.chain_modChain, if_neg apart, chain]
    · have examined : u.examine c = (u.chill c .cold).grantTest := (if_pos cools).trans (if_neg (by rwa [chain]))
      obtain ⟨⟨ch, l, granted, sub⟩, -⟩ := (u.chill c .cold).grantTest_changes
      have own : (u.chill c .cold).grantTest.chain c = (s.chain c).chilled .cold := by
        have chilled : (u.chill c .cold).chain c = (s.chain c).chilled .cold := by rw [State.chain_chill, if_pos rfl, chain]
        rw [State.chain_grantTest_of, chilled]
        · exact fun m => absurd (due ▸ m) conditions.2.2.1
        · intro _
          rw [chilled]
          exact ChainState.noConfusion
      rw [ran, examined]
      refine ⟨_, rfl, by rw [granted, begun]; rfl, fun _ => ⟨fun less => absurd less more, fun _ => ⟨?_, _, own⟩⟩,
        fun not => absurd conditions not⟩
      rw [granted]
      exact fun m => by simpa using sub.subset m
  · have examined : u.examine c = u := if_neg cools
    rw [ran, examined]
    exact ⟨_, rfl, by rw [begun]; rfl, fun conditions => absurd (coolable.mpr conditions) cools,
      fun _ => ⟨by rw [begun]; rfl, by rw [begun]; rfl⟩⟩

/-- Settles O21: the late count of a chain that is due, else its join. -/
theorem periodExpiryAppendsOrCountsLate : Obligations.PeriodExpiryAppendsOrCountsLate := by
  intro s c rest outstanding
  obtain ⟨u, begun⟩ : ∃ u : State, u = s.setFrame { s.frame with expiries := rest } := ⟨_, rfl⟩
  have ran : exec (.periodExpiry c) s = .next (u.periodExpired c) := by
    show execPeriodExpiry c s = _
    rw [execPeriodExpiry, outstanding, begun]
    exact if_pos rfl
  have chain (d : ChainNo) : u.chain d = s.chain d := by rw [begun]; rfl
  have due : u.due = s.due := by rw [begun]; rfl
  have read : u.read = s.read := by rw [begun]; rfl
  have counts : u.warmCount = s.warmCount ∧ u.warmLimit = s.warmLimit := by rw [begun]; exact ⟨rfl, rfl⟩
  refine ⟨fun isDue => ?_, fun notDue => ?_⟩
  · have late : u.periodExpired c = u.countLate c := if_pos (by rw [due]; simpa using isDue)
    refine ⟨_, ran.trans (congrArg _ late), by rw [begun]; rfl, fun d apart => ?_, ?_⟩
    · rw [State.chain_countLate, if_neg apart, chain]
    · rw [State.chain_countLate, if_pos rfl, chain]
  · have joins : u.periodExpired c = u.joinDue c := if_neg (by rw [due]; simpa using notDue)
    have notDue' : c ∉ u.due := due ▸ notDue
    obtain ⟨⟨ch, l, q, rd, joined⟩, keeps⟩ := u.joinDue_changes c
    refine ⟨_, ran.trans (congrArg _ joins), by rw [joined, begun]; rfl, fun d => by rw [keeps, chain], fun waits => ?_,
      fun cold => ⟨?_, fun noneCold below => ?_⟩, fun warm busy => ?_, fun warm idle geometry noneWarm => ?_⟩
    · rw [State.joinDue_waits notDue' (by rw [chain]; rintro e; simp [e] at waits)
        (by rw [chain]; rintro e; simp [e] at waits)]
      exact ⟨by rw [due], by rw [begun]; rfl⟩
    · rw [State.joinDue_cold notDue' (by rwa [chain]), State.grantTest_due, due]
    · have joinedChain (d : ChainNo) : State.chain { u with due := u.due ++ [c] } d = s.chain d := chain d
      have only : ∀ d ∈ u.due ++ [c], (State.chain { u with due := u.due ++ [c] } d).state = .cold → d = c := fun d m same => by
        rw [joinedChain] at same
        rcases List.mem_append.mp m with before | last
        · exact absurd same (noneCold d (due ▸ before))
        · exact List.mem_singleton.mp last
      rw [State.joinDue_cold notDue' (by rwa [chain]), State.grantTest_only (s := { u with due := u.due ++ [c] }) (c := c)
        (List.mem_append_right _ (List.mem_singleton_self c)) (by rwa [joinedChain]) only
        (lt_of_eq_of_lt counts.1 (lt_of_lt_of_eq below counts.2.symm)), State.chain_excite, if_pos rfl, joinedChain]
      exact ⟨rfl, rfl⟩
    · rw [State.joinDue_warm notDue' (by rwa [chain]), State.readerChoice_of_busy (by rw [read]; exact busy)]
      exact ⟨by rw [due], by rw [begun]; rfl⟩
    · obtain ⟨g, inForce⟩ := Option.isSome_iff_exists.mp geometry
      have first : State.dueWarm { u with due := u.due ++ [c] } = some c :=
        State.dueWarm_last (l := s.due) (by rw [due]) (fun d m => by
          show (u.chain d).state ≠ _
          rw [chain]
          exact noneWarm d m) (by show (u.chain c).state = _; rwa [chain])
      rw [State.joinDue_warm notDue' (by rwa [chain]), State.readerChoice_starts (s := { u with due := u.due ++ [c] })
        (read.trans idle) (g := g) (by rw [begun]; exact inForce) first]
      refine ⟨?_, ?_, rfl⟩
      · rw [← filter_append_self notDue, ← due]
        rfl
      · rw [State.chain_startRead, if_pos rfl]

end Sys2Proof.Machine
end

section
/-! SUPPORT. The statements about frames: what is outstanding after each block's work, and the frame expiry by run state
(R13, R29, R101, R116, R156, R157). -/

namespace Sys2Proof.Machine

open Sys2Proof

/-! ## What each block's work leaves outstanding -/

theorem FrameWork.eq_empty {w : FrameWork} (expiries : w.expiries = []) (coolDowns : w.coolDowns = [])
    (pageWork : w.pageWork = false) (sweep : w.sweep = []) : w = FrameWork.empty := by
  obtain ⟨e, c, p, l⟩ := w
  simp only at expiries coolDowns pageWork sweep
  rw [expiries, coolDowns, pageWork, sweep]
  rfl

section
variable (s : State)

theorem State.takeExpiries_frame : s.takeExpiries.frame = { s.frame with expiries := [] } := by
  have kept (l : List ChainNo) (t : State) : (l.foldl State.periodExpired t).frame = t.frame := by
    induction l generalizing t with
    | nil => rfl
    | cons c l ih => exact (ih _).trans (t.periodExpired_frame c)
  exact kept _ _

theorem State.takeCoolDowns_frame : s.takeCoolDowns.frame = { s.frame with coolDowns := [] } := by
  have kept (l : List ChainNo) (t : State) : (l.foldl State.examine t).frame = t.frame := by
    induction l generalizing t with
    | nil => rfl
    | cons c l ih => exact (ih _).trans (t.examine_frame c)
  exact kept _ _

theorem State.pageWriterWork_frame : s.pageWriterWork.frame = { s.frame with pageWork := false } := by
  obtain ⟨r, w, p, f, same, -, -⟩ := s.pageWriterWork_path
  rw [same]
  rfl

theorem State.drainTest_frame : s.drainTest.frame = s.frame ∨ s.drainTest.frame = FrameWork.empty := by
  unfold State.drainTest
  split
  · exact .inr rfl
  · exact .inl rfl

theorem State.pageWork_frame : s.pageWork.frame = { s.frame with pageWork := false } ∨ s.pageWork.frame = FrameWork.empty := by
  rw [State.pageWork, ← State.pageWriterWork_frame]
  exact State.drainTest_frame _

theorem State.takePageWork_frame : s.takePageWork.frame = { s.frame with pageWork := false } ∨
    s.takePageWork.frame = FrameWork.empty := by
  unfold State.takePageWork
  split
  · exact s.pageWork_frame
  · rename_i none
    rw [Bool.not_eq_true] at none
    rw [← none]
    exact .inl rfl

/-- A take cancels expiries and adds none (R28). -/
theorem State.takeSlot_expiries (k : SlotNo) (none : s.frame.expiries = []) : (s.takeSlot k).frame.expiries = [] := by
  have answered (t : State) (a : Answer) (same : t.frame.expiries = []) : (t.answer k a).frame.expiries = [] := by
    rwa [State.answer_frame]
  have begun : (s.beginTake k).frame.expiries = [] := none
  unfold State.takeSlot
  generalize s.readRequest k = r
  generalize s.beginTake k = u at begun
  dsimp only
  cases kindOf r.kind with
  | none => exact answered _ _ begun
  | some kind =>
    cases kind with
    | setChain =>
      dsimp only [State.actSetChain]
      split
      · exact answered _ _ begun
      · split
        · exact begun
        · refine answered _ _ ?_
          rw [State.reconfigure_frame, begun]
          rfl
    | readChain =>
      dsimp only [State.actReadChain]
      split
      · exact answered _ _ begun
      · rw [State.joinDue_frame]
        exact begun
    | parkChain =>
      dsimp only [State.actParkChain]
      split
      · exact answered _ _ begun
      · split
        · exact begun
        · exact answered _ _ (by rwa [State.park_frame])
    | setGroup =>
      dsimp only [State.actSetGroup]
      split
      · exact answered _ _ begun
      · exact answered _ _ (by rwa [State.define_eq])
    | rearmGroup =>
      dsimp only [State.actRearm]
      split
      · exact answered _ _ begun
      · exact answered _ _ begun
    | dropGroup =>
      dsimp only [State.actDrop]
      split
      · exact answered _ _ begun
      · exact answered _ _ begun
    | flush =>
      dsimp only [State.actFlush]
      split
      · exact answered _ _ begun
      · exact answered _ _ (by rwa [State.closePage_frame])

theorem State.takeSlot_frame (k : SlotNo) : (s.takeSlot k).frame.coolDowns = s.frame.coolDowns ∧
    (s.takeSlot k).frame.sweep = s.frame.sweep ∧ (s.takeSlot k).frame.pageWork = s.frame.pageWork :=
  ⟨(State.Works.coolDowns (s.takeSlot_works k) :), (State.Works.sweep (s.takeSlot_works k) :),
    (State.Works.pageWork (s.takeSlot_works k) :)⟩

/-- The sweep is the last of the frame work. -/
theorem State.sweepOver_frame (l : List SlotNo) (done : s.frame = FrameWork.empty) :
    (s.sweepOver l).frame = FrameWork.empty := by
  induction l generalizing s with
  | nil => exact done
  | cons k l ih =>
    unfold State.sweepOver
    split
    · split
      · refine ih _ ?_
        obtain ⟨coolDowns, sweep, pageWork⟩ := s.takeSlot_frame k
        have expiries := s.takeSlot_expiries k (by rw [done]; rfl)
        rw [done] at coolDowns sweep pageWork
        exact FrameWork.eq_empty expiries coolDowns pageWork sweep
      · exact done
    · exact ih _ done

/-- Once the outstanding frame work is finished none is outstanding. -/
theorem State.finishFrame_frame : s.finishFrame.frame = FrameWork.empty := by
  have before : ({ s.takeExpiries.takeCoolDowns.takePageWork.frame with sweep := [] } : FrameWork) = FrameWork.empty := by
    rcases State.takePageWork_frame s.takeExpiries.takeCoolDowns with work | ended
    · rw [work, State.takeCoolDowns_frame, State.takeExpiries_frame]
      rfl
    · rw [ended]
      rfl
  exact State.sweepOver_frame _ _ before

end

end Sys2Proof.Machine
end

section
/-! SUPPORT. The frame expiry command by command (R13, R29, R101, R116, R156, R157). -/

namespace Sys2Proof.Machine

open Sys2Proof

/-! ## The blocks' work as commands -/

section
variable {s : State}

theorem State.after_single {t : State} {c : Instr} (ran : exec c s = .next t) : s.after [c] = t := by
  rw [State.after_cons ran, State.after_nil]

theorem exec_frameExpiry_nil (s : State) : exec (.frameExpiry []) s = .next (s.finishFrame.expireFrame []) :=
  execFrameExpiry_of_nodup List.nodup_nil s

/-- The Scan Scheduler's work is the commands of its expiries (R29). -/
theorem State.takeExpiries_after (l : List ChainNo) (s : State) (outstanding : s.frame.expiries = l) :
    s.takeExpiries = s.after (l.map Instr.periodExpiry) := by
  induction l generalizing s with
  | nil => exact State.takeExpiries_nil outstanding
  | cons c l ih =>
    have ran : exec (.periodExpiry c) s = .next (s.takeExpiry c l) := by
      show execPeriodExpiry c s = _
      rw [execPeriodExpiry, outstanding]
      exact if_pos rfl
    have rest : (s.takeExpiry c l).frame.expiries = l := by rw [State.takeExpiry, State.periodExpired_frame]; rfl
    rw [State.takeExpiries_cons outstanding, List.map_cons, State.after_cons ran, ih _ rest]

/-- The Chain Controller's work is the commands of its examinations (R13). -/
theorem State.takeCoolDowns_after (l : List ChainNo) (s : State) (outstanding : s.frame.coolDowns = l) (nodup : l.Nodup) :
    s.takeCoolDowns = s.after (l.map Instr.idleCoolDown) := by
  induction l generalizing s with
  | nil => exact State.takeCoolDowns_nil outstanding
  | cons c l ih =>
    obtain ⟨off, nodup⟩ := List.nodup_cons.mp nodup
    have others : s.frame.coolDowns.filter (· != c) = l := by
      rw [outstanding, List.filter_cons_of_neg (by simp)]
      exact List.filter_eq_self.mpr fun d m => bne_iff_ne.mpr fun e => off (e ▸ m)
    have ran : exec (.idleCoolDown c) s = .next ((s.setFrame { s.frame with coolDowns := l }).examine c) := by
      rw [← others]
      exact if_pos (by rw [outstanding]; simp)
    have rest : ((s.setFrame { s.frame with coolDowns := l }).examine c).frame.coolDowns = l := by
      rw [State.examine_frame]
      rfl
    rw [State.takeCoolDowns_cons outstanding, List.map_cons, State.after_cons ran, ih _ rest nodup]

theorem State.pageWork_done (s : State) : s.pageWork.frame.pageWork = false := by
  rcases s.pageWork_frame with work | ended
  · rw [work]
  · rw [ended]
    rfl

/-- The Page Writer's work is its two commands, of which one acts (R101). -/
theorem State.takePageWork_after (s : State) : s.takePageWork = s.after [.timerSeal, .pageAcquisition] := by
  have idle (t : State) (done : t.frame.pageWork = false) :
      exec .timerSeal t = .next t ∧ exec .pageAcquisition t = .next t :=
    ⟨if_neg (by rw [done, Bool.false_and]; decide), if_neg (by rw [done, Bool.false_and]; decide)⟩
  unfold State.takePageWork
  cases outstanding : s.frame.pageWork with
  | false => rw [State.after_cons (idle s outstanding).1, State.after_single (idle s outstanding).2, if_neg (by decide)]
  | true =>
    rw [if_pos rfl]
    cases held : s.pages.current with
    | some p =>
      have seals : exec .timerSeal s = .next s.pageWork := if_pos (by rw [outstanding, held]; rfl)
      rw [State.after_cons seals, State.after_single (idle _ s.pageWork_done).2]
    | none =>
      have waits : exec .timerSeal s = .next s := if_neg (by rw [held]; simp)
      have acquires : exec .pageAcquisition s = .next s.pageWork := if_pos (by rw [outstanding, held]; rfl)
      rw [State.after_cons waits, State.after_single acquires]

/-- A take is the command that its kind byte names (R128). -/
theorem exec_takeCommand (s : State) (kind : Byte) : exec (takeCommand kind) s = .next (s.takeNext (kindOf kind)) := by
  unfold takeCommand kindOf
  split_ifs <;> rfl

end

/-! ## The frame expiry -/

/-- The expiry does first what is outstanding, and is then that of the finished state (log entry 6). -/
theorem exec_frameExpiry_finishFrame {order : List FrameBlock} (nodup : order.Nodup) (s : State) :
    exec (.frameExpiry order) s = exec (.frameExpiry order) s.finishFrame := by
  rw [execFrameExpiry_of_nodup nodup, execFrameExpiry_of_nodup nodup, State.finishFrame_of_empty s.finishFrame_frame]

/-- The blocks named work on the frame that the bare expiry opens (log entry 5). -/
theorem State.expireFrame_eq {s : State} (runs : s.run.state = .running ∨ s.run.state = .draining) (order : List FrameBlock) :
    s.expireFrame order = order.foldl State.blockWork (s.expireFrame []) := by
  unfold State.expireFrame
  rcases runs with running | draining
  · rw [running]
    rfl
  · rw [draining]
    rfl

/-- Settles O20: the work of the blocks one by one. -/
theorem frameBlocksDoTheirWork : Obligations.FrameBlocksDoTheirWork := by
  intro s
  refine ⟨fun order nodup => ⟨exec_frameExpiry_finishFrame nodup s, fun runs empty => ?_⟩, s.takeExpiries_after _ rfl,
    fun nodup => s.takeCoolDowns_after _ rfl nodup, s.takePageWork_after, State.takeSweep_nil,
    fun k rest outstanding => ⟨fun unposted => State.takeSweep_pass outstanding unposted, fun posted full => ?_,
      fun posted room => ?_⟩⟩
  · rw [execFrameExpiry_of_nodup nodup, State.after_single (exec_frameExpiry_nil s), State.finishFrame_of_empty empty,
      State.expireFrame_eq runs order]
  · exact State.takeSweep_full outstanding posted (decide_eq_false (Nat.not_lt.mpr full))
  · have next : s.nextTake k rest := ⟨⟨[], outstanding, fun j m => absurd m List.not_mem_nil⟩, posted, room⟩
    rw [State.after_single (exec_takeCommand s _), State.takeNext_of_nextTake next rfl]
    exact State.takeSweep_take outstanding posted (decide_eq_true room)

/-- The chain counter's chains, by their states (R29). -/
theorem ChainRec.counting_iff (r : ChainRec) : r.counting = true ↔ 0 < r.defn.period ∧ r.state ≠ .off ∧ r.state ≠ .lost := by
  rw [ChainRec.counting, Bool.and_eq_true, decide_eq_true_eq]
  refine and_congr_right fun _ => ?_
  cases r.state <;> decide

theorem allChains_sorted : allChains.Pairwise fun c d => c < d := by decide

/-- Settles O18: the frame that a RUNNING expiry opens. -/
theorem frameExpiryOpensFrameWork : Obligations.FrameExpiryOpensFrameWork := by
  intro s running empty
  have ran : exec (.frameExpiry []) s = .next s.openRunningFrame := by
    rw [exec_frameExpiry_nil, State.finishFrame_of_empty empty, State.expireFrame, running]
    rfl
  have chain (c : ChainNo) : s.openRunningFrame.chain c = (s.chain c).decremented := by
    simp [State.openRunningFrame, State.chain]
  refine ⟨_, ran, rfl, fun g geometry => ?_, fun c => ⟨fun counts => ?_, fun stands => ?_, ?_⟩, ?_, mem_allChains, rfl, ?_⟩
  · simp only [State.openRunningFrame, State.advanceFrame, geometry]
    rfl
  · rw [chain, ChainRec.decremented, if_pos ((s.chain c).counting_iff.mpr counts)]
  · rw [chain, ChainRec.decremented, if_neg (mt (s.chain c).counting_iff.mp stands)]
  · have expires : c ∈ s.openRunningFrame.frame.expiries ↔ (s.chain c).expires = true := by
      simp [State.openRunningFrame, mem_allChains]
    rw [expires, ChainRec.expires, Bool.and_eq_true, ChainRec.counting_iff, beq_iff_eq]
    simp only [and_assoc]
  · have expiries : s.openRunningFrame.frame.expiries = allChains.filter fun c => (s.chain c).expires := rfl
    rw [expiries]
    exact allChains_sorted.filter _
  · simp [State.openRunningFrame, cyclicAfter]

/-! ## The expiry in DRAINING -/

/-- Of the outstanding frame work the Page Writer's alone may remain (R156). -/
def State.PagesOnly (s : State) : Prop := s.frame.expiries = [] ∧ s.frame.coolDowns = [] ∧ s.frame.sweep = []

section
variable {s : State} (only : s.PagesOnly)
include only

theorem State.PagesOnly.blockWork (b : FrameBlock) : s.blockWork b = if b = .pageWriter then s.takePageWork else s := by
  obtain ⟨expiries, coolDowns, sweep⟩ := only
  cases b with
  | scanScheduler => exact State.takeExpiries_nil expiries
  | chainController => exact State.takeCoolDowns_nil coolDowns
  | pageWriter => rfl
  | requestEngine => exact State.takeSweep_nil sweep

theorem State.PagesOnly.takePageWork : s.takePageWork.PagesOnly := by
  rcases s.takePageWork_frame with work | ended
  · rw [State.PagesOnly, work]
    exact only
  · rw [State.PagesOnly, ended]
    exact ⟨rfl, rfl, rfl⟩

theorem State.PagesOnly.foldl {order : List FrameBlock} (nodup : order.Nodup) :
    order.foldl State.blockWork s = if .pageWriter ∈ order then s.takePageWork else s := by
  induction order generalizing s with
  | nil => rfl
  | cons b order ih =>
    obtain ⟨off, once⟩ := List.nodup_cons.mp nodup
    rw [List.foldl_cons, only.blockWork b]
    by_cases writer : b = .pageWriter
    · subst writer
      rw [if_pos rfl, ih only.takePageWork once, if_neg off, if_pos List.mem_cons_self]
    · rw [if_neg writer, ih only once]
      simp [Ne.symm writer]

end

/-- The Page Writer's work touches run state, timer, frame work, records, window, pages and flags alone. -/
theorem State.takePageWork_changes (s : State) : ∃ x ft w r m p f, s.takePageWork =
    { s with run := { s.run with state := x, frameTimer := ft }, frame := w, records := r, window := m, pages := p
             alerts := { s.alerts with flags := f } } := by
  unfold State.takePageWork
  split
  · obtain ⟨r, m, p, f, worked, -, -⟩ := s.pageWriterWork_path
    obtain ⟨x, ft, w, r', m', p', f', tested, -, -⟩ := s.pageWriterWork.drainTest_changes
    refine ⟨x, ft, w, r', m', p', f', ?_⟩
    rw [State.pageWork, tested, worked]
    rfl
  · exact ⟨_, _, _, _, _, _, _, rfl⟩

/-- Settles O19: the expiry by the run state in which it falls. -/
theorem frameExpiryActsByRunState : Obligations.FrameExpiryActsByRunState := by
  intro s order nodup
  refine ⟨fun running => ?_, fun draining empty => ?_, fun stands empty => ?_⟩
  · have sameRun : s.finishFrame.run = s.run := s.finishFrame_run (by rw [running]; decide)
    have opens : s.finishFrame.expireFrame order = order.foldl State.blockWork s.finishFrame.openRunningFrame := by
      rw [State.expireFrame, sameRun, running]
    have run : (s.finishFrame.expireFrame order).run = { s.run with
        stamp := s.run.stamp + 1, frameTimer := s.run.geometry.map Geometry.frameCycles } := by
      rw [opens]
      rcases State.foldl_blockWork_run s.finishFrame.openRunningFrame order with same | ⟨drains, -⟩
      · rw [same]
        show s.finishFrame.advanceFrame.run = _
        rw [State.advanceFrame, sameRun]
      · have still : s.finishFrame.openRunningFrame.run.state = .running := by
          show s.finishFrame.run.state = _
          rw [sameRun, running]
        exact absurd (still.symm.trans drains) (by decide)
    refine ⟨_, execFrameExpiry_of_nodup nodup s, by rw [run], fun g geometry => ?_⟩
    rw [run, geometry]
    rfl
  · have ran : exec (.frameExpiry order) s =
        .next (if .pageWriter ∈ order then s.openDrainingFrame.takePageWork else s.openDrainingFrame) := by
      rw [execFrameExpiry_of_nodup nodup, State.finishFrame_of_empty empty, State.expireFrame, draining]
      exact congrArg _ (State.PagesOnly.foldl ⟨rfl, rfl, rfl⟩ nodup)
    have opened : exec (.frameExpiry []) s = .next s.openDrainingFrame := by
      rw [exec_frameExpiry_nil, State.finishFrame_of_empty empty, State.expireFrame, draining]
      rfl
    refine ⟨⟨_, ran, ?_⟩, fun unnamed => ?_, fun named => ?_⟩
    · split
      · obtain ⟨x, ft, w, r, m, p, f, worked⟩ := s.openDrainingFrame.takePageWork_changes
        rw [worked]
        exact ⟨rfl, rfl, rfl, rfl, rfl, rfl, rfl, rfl⟩
      · exact ⟨rfl, rfl, rfl, rfl, rfl, rfl, rfl, rfl⟩
    · rw [ran, if_neg unnamed]
      rfl
    · rw [ran, if_pos named, State.after_cons opened, State.takePageWork_after]
  · rw [execFrameExpiry_of_nodup nodup, State.finishFrame_of_empty empty, State.expireFrame]
    rcases stands with idle | init
    · rw [idle]
    · rw [init]

end Sys2Proof.Machine
end

section
/-! SUPPORT. A step on an empty queue: one CLKIN cycle and its events (R11, R39, R40, R156, R163). -/

namespace Sys2Proof.Machine

open Sys2Proof

/-! ## The events of a cycle -/

/-- Every event of this cycle, in the order of its sources. -/
def State.cycleEvents (s : State) : List Instr := s.runEvents ++ s.settleEvents ++ s.readEvents

theorem runsOut_iff {timer : Option Nat} : runsOut timer = true ↔ ∃ n, timer = some n ∧ n ≤ 1 := by
  cases timer with
  | none => simp [runsOut]
  | some n => simp [runsOut]

section
variable {s : State} {i : Instr}

theorem State.mem_runEvents : i ∈ s.runEvents ↔ (i = .initEnd ∧ ∃ n, s.run.zeroing = some n ∧ n ≤ 1) ∨
    (i = .frameExpiry (arrange (Config.frameOrder s.fresh) leftoverOrder) ∧ ∃ n, s.run.frameTimer = some n ∧ n ≤ 1) := by
  unfold State.runEvents
  rw [List.mem_append, ← runsOut_iff, ← runsOut_iff]
  split_ifs <;> simp [*]

theorem State.mem_settleEvents : i ∈ s.settleEvents ↔
    ∃ c, i = .settleCompletion c ∧ ∃ n, (s.chain c).settle = some n ∧ n ≤ 1 := by
  unfold State.settleEvents
  simp only [List.mem_map, List.mem_filter, mem_allChains, true_and, runsOut_iff]
  exact exists_congr fun c => ⟨fun ⟨out, same⟩ => ⟨same.symm, out⟩, fun ⟨same, out⟩ => ⟨out, same.symm⟩⟩

/-- A read's end falls in this cycle (R40). -/
def ReadInProgress.ends (rd : ReadInProgress) : Prop := rd.elapsed + 1 = rd.bitTime * (rd.length + 9)

/-- The load's end or the middle of a bit time falls in this cycle (R39). -/
def ReadInProgress.ticks (rd : ReadInProgress) : Prop := rd.elapsed + 1 = rd.bitTime ∨
  (rd.bitTime < rd.elapsed + 1 ∧ (rd.elapsed + 1) % rd.bitTime = rd.bitTime / 2)

theorem State.readEvents_of_none (idle : s.read = none) : s.readEvents = [] := by
  rw [State.readEvents, idle]

variable {rd : ReadInProgress} (reading : s.read = some rd)
include reading

theorem State.readEvents_ends (ends : rd.ends) : s.readEvents = [.readCompletion] := by
  rw [State.readEvents, reading]
  exact if_pos ends

theorem State.readEvents_ticks (goesOn : ¬ rd.ends) (ticks : rd.ticks) :
    s.readEvents = [.bitTime (Config.chainInputs s.fresh)] := by
  rw [State.readEvents, reading]
  exact (if_neg goesOn).trans (if_pos (by simpa [ReadInProgress.ticks] using ticks))

theorem State.readEvents_none (goesOn : ¬ rd.ends) (quiet : ¬ rd.ticks) : s.readEvents = [] := by
  rw [State.readEvents, reading]
  exact (if_neg goesOn).trans (if_neg (by simpa [ReadInProgress.ticks] using quiet))

end

theorem State.mem_readEvents {s : State} {i : Instr} (m : i ∈ s.readEvents) :
    ∃ rd, s.read = some rd ∧ ((i = .readCompletion ∧ rd.ends) ∨ (∃ inputs, i = .bitTime inputs ∧ ¬ rd.ends ∧ rd.ticks)) := by
  cases reading : s.read with
  | none => rw [State.readEvents_of_none reading] at m; cases m
  | some rd =>
    refine ⟨rd, rfl, ?_⟩
    by_cases ends : rd.ends
    · rw [State.readEvents_ends reading ends] at m
      exact .inl ⟨List.mem_singleton.mp m, ends⟩
    · by_cases ticks : rd.ticks
      · rw [State.readEvents_ticks reading ends ticks] at m
        exact .inr ⟨_, List.mem_singleton.mp m, ends, ticks⟩
      · rw [State.readEvents_none reading ends ticks] at m
        cases m

/-- A cycle brings no event twice. -/
theorem State.cycleEvents_nodup (s : State) : s.cycleEvents.Nodup := by
  have run : s.runEvents.Nodup := by
    unfold State.runEvents
    split_ifs <;> simp
  have settle : s.settleEvents.Nodup :=
    (allChains_nodup.filter _).map fun c d same => by injection same
  have read : s.readEvents.Nodup := by
    unfold State.readEvents
    split
    · exact List.nodup_nil
    · dsimp only
      split_ifs <;> simp
  refine (run.append settle ?_).append read ?_
  · intro i m n
    obtain ⟨c, rfl, -⟩ := State.mem_settleEvents.mp n
    rcases State.mem_runEvents.mp m with ⟨same, -⟩ | ⟨same, -⟩ <;> cases same
  · intro i m n
    obtain ⟨rd, -, ⟨rfl, -⟩ | ⟨inputs, rfl, -⟩⟩ := State.mem_readEvents n <;>
      rcases List.mem_append.mp m with m | m
    · rcases State.mem_runEvents.mp m with ⟨same, -⟩ | ⟨same, -⟩ <;> cases same
    · obtain ⟨c, same, -⟩ := State.mem_settleEvents.mp m
      cases same
    · rcases State.mem_runEvents.mp m with ⟨same, -⟩ | ⟨same, -⟩ <;> cases same
    · obtain ⟨c, same, -⟩ := State.mem_settleEvents.mp m
      cases same

/-! ## One cycle -/

theorem State.tick_eq {s : State} (empty : s.pending = []) : ∃ f p, s.tick = { s.countTimers with fresh := f, pending := p } ∧
    p.Perm s.cycleEvents ∧ (p = [] → f = s.fresh) := by
  unfold State.tick
  cases events : s.runEvents ++ s.settleEvents ++ s.readEvents with
  | nil => exact ⟨s.fresh, s.pending, rfl, by rw [empty, State.cycleEvents, events], fun _ => rfl⟩
  | cons e es =>
    have order := arrange_perm (Config.tieOrder s.fresh) (e :: es)
    refine ⟨s.fresh + 1, s.pending ++ arrange (Config.tieOrder s.fresh) (e :: es), rfl, ?_, fun none => ?_⟩
    · rw [empty, List.nil_append, State.cycleEvents, events]
      exact order
    · rw [empty, List.nil_append] at none
      rw [none] at order
      cases order.symm.eq_nil

theorem ReadInProgress.ticked_eq (rd : ReadInProgress) : rd.ticked = { rd with
    elapsed := rd.elapsed + 1
    clockHigh := rd.clockHigh && decide ((rd.elapsed + 1) % rd.bitTime ≠ 0) } := by
  unfold ReadInProgress.ticked
  rw [decide_not]
  rfl

/-- The middle of the k-th bit time is a tick and not the read's end (R39, R40). -/
theorem ReadInProgress.ticks_of_middle {rd : ReadInProgress} (clock : rd.bitTime ∈ [8, 16, 32, 64]) {k : Nat} (first : 1 ≤ k)
    (now : rd.elapsed + 1 = rd.bitTime * k + rd.bitTime / 2) : ¬ rd.ends ∧ rd.ticks := by
  have even : 0 < rd.bitTime / 2 ∧ rd.bitTime / 2 < rd.bitTime := by
    simp only [List.mem_cons, List.not_mem_nil, or_false] at clock
    omega
  have middle : (rd.elapsed + 1) % rd.bitTime = rd.bitTime / 2 := by
    rw [now, Nat.mul_add_mod, Nat.mod_eq_of_lt even.2]
  refine ⟨fun ends => ?_, .inr ⟨?_, middle⟩⟩
  · rw [ends, Nat.mul_mod_right] at middle
    omega
  · have := Nat.mul_le_mul_left rd.bitTime first
    omega

/-- The load's end is a tick and not the read's end (R39, R40). -/
theorem ReadInProgress.ticks_of_load {rd : ReadInProgress} (now : rd.elapsed + 1 = rd.bitTime) : ¬ rd.ends ∧ rd.ticks := by
  refine ⟨fun ends => ?_, .inl now⟩
  have longer := Nat.mul_le_mul_left rd.bitTime (show 2 ≤ rd.length + 9 by omega)
  rw [ReadInProgress.ends, now] at ends
  omega

/-- Settles O3: outstanding frame work is finished, else the cycle's events wait in some order. -/
theorem emptyQueueStepIsOneCycle : Obligations.EmptyQueueStepIsOneCycle := by
  intro s empty
  have steps : step s = .next s.idleStep := by rw [step, empty]
  refine ⟨fun outstanding => ?_, fun noWork => ?_⟩
  · rw [steps, State.idleStep, if_neg outstanding]
    rfl
  · obtain ⟨f, p, ticked, order, standing⟩ := State.tick_eq empty
    rw [State.idleStep, if_pos noWork, ticked] at steps
    have waits {i : Instr} : i ∈ s.cycleEvents → i ∈ p := order.mem_iff.mpr
    have fromRun {i : Instr} (m : i ∈ s.runEvents) : i ∈ p := waits (List.mem_append_left _ (List.mem_append_left _ m))
    have fromRead {i : Instr} (m : i ∈ s.readEvents) : i ∈ p := waits (List.mem_append_right _ m)
    have bit {rd : ReadInProgress} (reading : s.read = some rd) (ticks : ¬ rd.ends ∧ rd.ticks) :
        ∃ inputs, .bitTime inputs ∈ p := by
      refine ⟨Config.chainInputs s.fresh, fromRead ?_⟩
      rw [State.readEvents_ticks reading ticks.1 ticks.2]
      exact List.mem_singleton_self _
    refine ⟨_, steps, ?_, fun c => ?_, fun n zeroing out => ?_, fun n timer out => ?_, fun c n settle out => ?_,
      fun rd reading clock => ⟨fun ends => ?_, fun now => ?_, fun k first last now => ?_⟩, ?_, fun i m => ?_, standing⟩
    · rw [← funext ReadInProgress.ticked_eq]
      rfl
    · simp [State.chain, State.countTimers, counted]
    · exact fromRun (State.mem_runEvents.mpr (.inl ⟨rfl, n, zeroing, out⟩))
    · exact ⟨_, arrange_perm _ _, fromRun (State.mem_runEvents.mpr (.inr ⟨rfl, n, timer, out⟩))⟩
    · exact waits (List.mem_append_left _ (List.mem_append_right _ (State.mem_settleEvents.mpr ⟨c, rfl, n, settle, out⟩)))
    · refine fromRead ?_
      rw [State.readEvents_ends reading ends]
      exact List.mem_singleton_self _
    · exact bit reading (ReadInProgress.ticks_of_load now)
    · exact bit reading (ReadInProgress.ticks_of_middle clock first now)
    · exact order.nodup_iff.mpr s.cycleEvents_nodup
    · rcases List.mem_append.mp (order.mem_iff.mp m) with m | m
      · rcases List.mem_append.mp m with m | m
        · rcases State.mem_runEvents.mp m with ⟨same, out⟩ | ⟨same, n, timer, out⟩
          · exact .inl ⟨same, out⟩
          · exact .inr (.inl ⟨_, n, same, timer, out⟩)
        · obtain ⟨c, same, n, settle, out⟩ := State.mem_settleEvents.mp m
          exact .inr (.inr (.inl ⟨c, n, same, settle, out⟩))
      · obtain ⟨rd, reading, ⟨same, ends⟩ | ⟨inputs, same, goesOn, ticks⟩⟩ := State.mem_readEvents m
        · exact .inr (.inr (.inr (.inl ⟨rd, same, reading, ends⟩)))
        · exact .inr (.inr (.inr (.inr ⟨rd, inputs, same, reading, goesOn, ticks⟩)))

end Sys2Proof.Machine
end

section
/-! SUPPORT. Resets, INIT and START (R153 to R155, R163, R164, R181). -/

namespace Sys2Proof.Machine

open Sys2Proof

/-! ## A command written to its register -/

theorem setWidth_halfOf (low high : Byte) : (halfOf low high).setWidth 8 = low := by
  refine BitVec.eq_of_getLsbD_eq fun i less => ?_
  rw [BitVec.getLsbD_setWidth, halfOf, decide_eq_true less, Bool.true_and]
  exact (BitVec.getLsbD_append ..).trans (if_pos less)

theorem State.registerWritten_start (s : State) (high : Byte) : s.registerWritten 2 (halfOf 0x01 high) = s.startCommand := by
  rw [State.registerWritten, if_pos rfl, setWidth_halfOf, if_pos rfl]

theorem State.registerWritten_stop (s : State) (high : Byte) : s.registerWritten 2 (halfOf 0x02 high) = s.stopCommand := by
  rw [State.registerWritten, if_pos rfl, setWidth_halfOf, if_neg (by decide), if_pos rfl]

theorem State.registerWritten_softReset (s : State) (high : Byte) :
    s.registerWritten 2 (halfOf 0xA5 high) = s.softResetCommand := by
  rw [State.registerWritten, if_pos rfl, setWidth_halfOf, if_neg (by decide), if_neg (by decide), if_pos rfl]

section
variable {s : State} (h : s.portOpen = true)
include h

/-- A register write is taken wherever an open port stands (log entry 11). -/
theorem State.hostRegisterWrite_of_open (number : Byte) (value : Half) :
    s.hostRegisterWrite number value = (s.registerWritten number value).afterRegister number := if_pos h

theorem exec_start_of_open (high : Byte) : exec (.start high) s = .next (s.startCommand.afterRegister 2) := by
  rw [← s.registerWritten_start high, ← State.hostRegisterWrite_of_open h]
  rfl

theorem exec_stop_of_open (high : Byte) : exec (.stop high) s = .next (s.stopCommand.afterRegister 2) := by
  rw [← s.registerWritten_stop high, ← State.hostRegisterWrite_of_open h]
  rfl

theorem exec_softReset_of_open (high : Byte) : exec (.softReset high) s = .next (s.softResetCommand.afterRegister 2) := by
  rw [← s.registerWritten_softReset high, ← State.hostRegisterWrite_of_open h]
  rfl

end

/-! ## START -/

/-- The refusal cause as the statements spell it (R154). -/
theorem State.startRefusal_eq (s : State) : s.startRefusal =
    if ¬ (1 ≤ (s.window.read 0).toNat ∧ (s.window.read 0).toNat ≤ 16) then 1
    else if ¬ (2 ≤ (s.window.read 1).toNat ∧ (s.window.read 1).toNat ≤ 40) then 2
    else if ¬ (1 ≤ (s.window.read 2).toNat ∧ (s.window.read 2).toNat ≤ 64) then 3
    else if ¬ (1 ≤ (s.window.read 3).toNat ∧ (s.window.read 3).toNat ≤ 4) then 4
    else if ¬ (s.window.read 4).toNat ≤ 3 then 5
    else if ¬ 1 ≤ (s.window.read 5).toNat then 6
    else if ¬ s.pinnedCount < (s.window.read 3).toNat then 7
    else 0 := by
  have byte : s.headerField 5 ≤ 255 := Nat.le_of_lt_succ (s.window.read 5).isLt
  simp only [State.startRefusal, within, Bool.not_eq_true', Bool.and_eq_false_iff, decide_eq_false_iff_not, ← not_and_or,
    byte, Nat.zero_le, true_and, and_true]
  rfl

/-- A START in IDLE (R152). -/
theorem State.startCommand_idle {s : State} (idle : s.run.state = .idle) :
    s.startCommand = if s.startRefusal = 0 then s.acceptStart else s.refuseStart s.startRefusal := by
  rw [State.startCommand, idle]

/-- A header device field (R182). -/
theorem State.windowByte_header (s : State) {i : Nat} (inside : i < 48) :
    s.windowByte (0x10 + i) = s.headerDevice.getD i 0 := by
  have header : inHeaderDevice (0x10 + i) = true := by simp [inHeaderDevice]; omega
  unfold State.windowByte
  rw [if_pos header, Nat.add_sub_cancel_left]

/-- Settles O6: the cause is that of the first check that fails. -/
theorem startRefusedByFirstFailingCheck : Obligations.StartRefusedByFirstFailingCheck := by
  intro s high cause isOpen idle first refused
  rw [← State.startRefusal_eq] at first
  rw [exec_start_of_open isOpen, State.startCommand_idle idle, ← first, if_neg refused]
  rfl

/-- The header device fields right after an accepted START (R164). -/
theorem State.headerDevice_acceptStart (s : State) : (s.acceptStart.afterRegister 2).headerDevice =
    [0x46, 0x47, 0x32, 0x34] ++ halfBytes (s.run.epoch + 1) ++ List.replicate 42 0 := by
  have signature : wordBytes signatureWord = [0x46, 0x47, 0x32, 0x34] := by decide
  have zeroWord : wordBytes 0 = List.replicate 4 0 := by decide
  have zeroHalf : halfBytes 0 = List.replicate 2 0 := by decide
  rw [show (s.acceptStart.afterRegister 2).headerDevice = wordBytes signatureWord ++ halfBytes (s.run.epoch + 1) ++
      halfBytes 0 ++ wordBytes 0 ++ wordBytes 0 ++ wordBytes 0 ++ wordBytes 0 ++ wordBytes 0 ++ wordBytes 0 ++
      List.replicate 16 0 from rfl, signature, zeroWord, zeroHalf]
  simp only [List.append_assoc, List.replicate_append_replicate]

/-- Settles O5: the accepted START sets every block. -/
theorem startAcceptedPreparesRun : Obligations.StartAcceptedPreparesRun := by
  intro s high S P F W K D isOpen idle hS hP hF hW hK hD S1 S16 P2 P40 F1 F64 W1 W4 K3 D1 pins
  subst hS hP hF hW hK hD
  have passes : s.startRefusal = 0 := by
    rw [State.startRefusal_eq]
    simp only [S1, S16, P2, P40, F1, F64, W1, W4, K3, D1, pins, and_self, not_true_eq_false, if_false]
  have ran : exec (.start high) s = .next (s.acceptStart.afterRegister 2) := by
    rw [exec_start_of_open isOpen, State.startCommand_idle idle, if_pos passes]
  have header := s.headerDevice_acceptStart
  refine ⟨_, ran, rfl, fun c => ?_, rfl, rfl, rfl, rfl, fun c => ?_, fun n => ?_, rfl, rfl, ?_, rfl, rfl, rfl, rfl, rfl, ?_,
    ⟨?_, ?_, ?_, ?_⟩, fun a low high => ?_, rfl, rfl, rfl⟩
  · have chain : (s.acceptStart.afterRegister 2).chain c = (s.chain c).started := by
      simp [State.chain, State.acceptStart, State.afterRegister, State.setPort]
    rw [chain, ChainRec.started]
    simp
  · simp [State.image, State.acceptStart, State.afterRegister, State.setPort]
  · simp [State.group, State.acceptStart, State.afterRegister, State.setPort, GroupRec.started]
  · exact Nat.mod_eq_of_lt (show (s.window.read 1).toNat - 1 < 40 by omega)
  · exact Nat.mod_eq_of_lt (show (s.window.read 0).toNat - 1 < 16 by omega)
  · exact (State.windowByte_header _ (i := 0) (by decide)).trans (by rw [header]; rfl)
  · exact (State.windowByte_header _ (i := 1) (by decide)).trans (by rw [header]; rfl)
  · exact (State.windowByte_header _ (i := 2) (by decide)).trans (by rw [header]; rfl)
  · exact (State.windowByte_header _ (i := 3) (by decide)).trans (by rw [header]; rfl)
  · obtain ⟨i, rfl⟩ := Nat.exists_eq_add_of_le (show 0x16 ≤ a by omega)
    rw [show 0x16 + i = 0x10 + (6 + i) by omega, State.windowByte_header _ (by omega), header,
      List.getD_append_right _ _ _ _ (by simp [halfBytes_length])]
    exact List.getElem?_getD_replicate_default_eq ..

end Sys2Proof.Machine
end

section
/-! SUPPORT. Hard reset and INIT, register writes, and the flags bit by bit (R152, R163, R167 to R172, R179, R181). -/

namespace Sys2Proof.Machine

open Sys2Proof

/-! ## Hard reset and INIT -/

/-- Settles O4: the reset, the zeroing's begin and its end. -/
theorem hardResetAndInit : Obligations.HardResetAndInit := by
  intro s
  have released : ((0 : BitVec 7) &&& 0 != 0) = false := by decide
  refine ⟨⟨_, rfl, rfl, rfl, rfl, ?_, fun c => ?_, rfl, rfl, released, rfl, rfl, rfl, rfl, fun closed => ?_,
    fun isOpen => ?_, rfl,
    rfl, rfl⟩, fun low => ?_, fun high => ?_, fun init zeroing => ?_, fun stands => ?_⟩
  · exact (resetSatisfiesEveryLaw.2.1 :)
  · rw [State.excitation, State.chain_of_reset rfl]
    rfl
  · show s.port.phase.underReset = _
    rw [closed]
    rfl
  · show s.port.phase.underReset = _
    cases phase : s.port.phase
    case closed => exact absurd phase isOpen
    all_goals rfl
  · exact ⟨(Config.initCycles s.fresh).val, Nat.le_of_lt_succ (Config.initCycles s.fresh).isLt, if_pos low⟩
  · exact if_neg (by rw [high]; decide)
  · have ran : exec .initEnd s = .next { s with run := { s.run with state := .idle, zeroing := none }, window := [] } :=
      if_pos (by rw [init, zeroing]; rfl)
    refine ⟨_, ran, rfl, fun a => rfl, fun k => rfl, fun p => rfl, fun isOpen high => ?_⟩
    rw [exec_start_of_open isOpen, State.startCommand_idle rfl, State.startRefusal_eq]
    exact ⟨_, rfl, rfl, rfl⟩
  · refine if_neg fun ends => ?_
    rw [Bool.and_eq_true, decide_eq_true_eq] at ends
    rcases stands with notInit | none
    · exact notInit ends.1
    · rw [none] at ends
      cases ends.2

/-! ## Register writes -/

section
variable {s : State} (h : s.portOpen = true)
include h

theorem exec_irqFlagsWrite_of_open (value : Half) :
    exec (.irqFlagsWrite value) s = .next ((s.clearFlags value).afterRegister 3) :=
  congrArg Host.Outcome.next (if_pos h)

theorem exec_irqEnableWrite_of_open (value : Half) : exec (.irqEnableWrite value) s =
    .next ((if s.run.state = .init then s else s.setEnables value).afterRegister 4) :=
  congrArg Host.Outcome.next (if_pos h)

end

/-- With the port shut a register write does nothing (R174, R181). -/
theorem State.hostRegisterWrite_of_shut {s : State} (h : s.portOpen = false) (number : Byte) (value : Half) :
    s.hostRegisterWrite number value = s := if_neg (by rw [h]; decide)

/-- A write that no register takes (R152, R179). -/
theorem State.registerWritten_of_ignored {s : State} {number : Byte} {value : Half}
    (wf : (Instr.registerWriteIgnored number value).wf = true) : s.registerWritten number value = s := by
  change ignoredRegisterWrite number value = true at wf
  unfold ignoredRegisterWrite at wf
  unfold State.registerWritten
  split at wf
  · rename_i command
    simp only [commandCodes, List.contains_eq_mem, List.mem_cons, List.not_mem_nil, or_false, Bool.not_eq_true',
      decide_eq_false_iff_not, not_or] at wf
    obtain ⟨start, stop, softReset⟩ := wf
    rw [if_pos command, if_neg start, if_neg stop, if_neg softReset]
  · rename_i other
    rw [Bool.and_eq_true, bne_iff_ne, bne_iff_ne] at wf
    rw [if_neg other, if_neg wf.1, if_neg wf.2]

/-- Which register writes are ignored (R152, R179). -/
theorem wf_registerWriteIgnored {number : Byte} {value : Half}
    (ignored : number = 0 ∨ number = 1 ∨ 5 ≤ number.toNat ∨ (number = 2 ∧ value.setWidth 8 ≠ (0x01 : Byte) ∧
      value.setWidth 8 ≠ (0x02 : Byte) ∧ value.setWidth 8 ≠ (0xA5 : Byte))) :
    (Instr.registerWriteIgnored number value).wf = true := by
  have others (two : number ≠ 2) (three : number ≠ 3) (four : number ≠ 4) :
      (Instr.registerWriteIgnored number value).wf = true := by
    refine (if_neg two).trans ?_
    rw [Bool.and_eq_true, bne_iff_ne, bne_iff_ne]
    exact ⟨three, four⟩
  rcases ignored with rfl | rfl | high | ⟨rfl, start, stop, softReset⟩
  · exact others (by decide) (by decide) (by decide)
  · exact others (by decide) (by decide) (by decide)
  · exact others (by rintro rfl; simp at high) (by rintro rfl; simp at high) (by rintro rfl; simp at high)
  · show ignoredRegisterWrite 2 value = true
    rw [ignoredRegisterWrite, if_pos rfl]
    simpa [commandCodes] using ⟨start, stop, softReset⟩

/-- Settles O12: each register's write, and those that reach none. -/
theorem registerWritesReachTheirRegister : Obligations.RegisterWritesReachTheirRegister := by
  intro s
  refine ⟨fun isOpen value => ⟨?_, ?_, fun number ignored => ?_⟩, fun isOpen high => ⟨fun notIdle => ?_, fun ignores => ?_,
    fun init => ?_⟩, fun shut => ⟨fun high => ⟨?_, ?_, ?_⟩, fun value => ⟨?_, ?_⟩, fun number value wf => ?_,
      fun first data => ?_,
      fun first => ?_⟩⟩
  · refine ⟨_, exec_irqFlagsWrite_of_open isOpen value, rfl, fun i less => ?_⟩
    simp [State.clearFlags, State.afterRegister, State.setPort, less]
  · rw [exec_irqEnableWrite_of_open isOpen]
    split
    · rename_i init
      exact ⟨_, rfl, rfl, rfl, fun _ => rfl, fun notInit => absurd init notInit⟩
    · rename_i notInit
      refine ⟨_, rfl, rfl, rfl, fun init => absurd init notInit, fun _ => ⟨fun i less => ?_, ?_, ?_⟩⟩
      · simp [State.setEnables, State.afterRegister, State.setPort, less]
      · simp [State.setEnables, State.afterRegister, State.setPort]
      · simp [State.setEnables, State.afterRegister, State.setPort]
  · have wf := wf_registerWriteIgnored ignored
    rw [exec_registerWriteIgnored_of_wf wf, State.hostRegisterWrite, if_pos isOpen, State.registerWritten_of_ignored wf]
    rfl
  · have same : s.startCommand = s := by
      unfold State.startCommand
      cases state : s.run.state
      case idle => exact absurd state notIdle
      all_goals rfl
    rw [exec_start_of_open isOpen, same]
    rfl
  · have same : s.stopCommand = s := by
      unfold State.stopCommand
      rcases ignores with init | idle
      · rw [init]
      · rw [idle]
    rw [exec_stop_of_open isOpen, same]
    rfl
  · have same : s.softResetCommand = s := by
      unfold State.softResetCommand
      rw [init]
    rw [exec_softReset_of_open isOpen, same]
    rfl
  · exact congrArg Host.Outcome.next (State.hostRegisterWrite_of_shut shut _ _)
  · exact congrArg Host.Outcome.next (State.hostRegisterWrite_of_shut shut _ _)
  · exact congrArg Host.Outcome.next (State.hostRegisterWrite_of_shut shut _ _)
  · exact congrArg Host.Outcome.next (State.hostRegisterWrite_of_shut shut _ _)
  · exact congrArg Host.Outcome.next (State.hostRegisterWrite_of_shut shut _ _)
  · rw [exec_registerWriteIgnored_of_wf wf, State.hostRegisterWrite_of_shut shut]
  · exact if_neg (by rw [shut]; decide)
  · exact if_neg (by rw [shut]; decide)

/-! ## Flags bit by bit -/

/-- The bit of a flag (R170). -/
def Flag.bit : Flag → Nat
  | .sealed => 0
  | .trip => 1
  | .answer => 2
  | .chain => 3
  | .overrun => 4
  | .stopped => 5
  | .board => 6

theorem Flag.bit_lt (f : Flag) : f.bit < 7 := by cases f <;> decide

theorem Flag.exists_bit {i : Nat} (inside : i < 7) : ∃ f : Flag, f.bit = i := by
  interval_cases i
  exacts [⟨.sealed, rfl⟩, ⟨.trip, rfl⟩, ⟨.answer, rfl⟩, ⟨.chain, rfl⟩, ⟨.overrun, rfl⟩, ⟨.stopped, rfl⟩, ⟨.board, rfl⟩]

theorem Flag.bit_inj {f g : Flag} (h : f.bit = g.bit) : f = g := by
  revert h
  cases f <;> cases g <;> decide

/-- A word meets a flag's mask where it has the flag's bit. -/
theorem Flag.and_mask_ne_zero (f : Flag) (w : BitVec 7) : w &&& f.mask ≠ 0 ↔ w.getLsbD f.bit = true := by
  revert w
  cases f <;> decide +kernel

theorem State.flagged_iff {s : State} {f : Flag} : s.flagged f = true ↔ s.alerts.flags.getLsbD f.bit = true := by
  rw [State.flagged, bne_iff_ne, Flag.and_mask_ne_zero]

/-- Two words of flags meet where some flag is in both. -/
theorem and_ne_zero_iff_flag {a b : BitVec 7} :
    a &&& b ≠ 0 ↔ ∃ f : Flag, a.getLsbD f.bit = true ∧ b.getLsbD f.bit = true := by
  constructor
  · intro meets
    by_contra apart
    refine meets (BitVec.eq_of_getLsbD_eq fun i less => ?_)
    obtain ⟨f, rfl⟩ := Flag.exists_bit less
    refine (BitVec.getLsbD_and ..).trans (Eq.trans ?_ BitVec.getLsbD_zero.symm)
    by_contra both
    rw [Bool.not_eq_false, Bool.and_eq_true] at both
    exact apart ⟨f, both⟩
  · rintro ⟨f, inA, inB⟩ zero
    have bit := congrArg (BitVec.getLsbD · f.bit) zero
    rw [BitVec.getLsbD_and, inA, inB] at bit
    exact absurd (bit.trans BitVec.getLsbD_zero) (by decide)

theorem State.nirqLow_iff {s : State} : s.nirqLow = true ↔
    ∃ f : Flag, s.flagged f = true ∧ s.alerts.enables.getLsbD f.bit = true := by
  rw [State.nirqLow, bne_iff_ne, and_ne_zero_iff_flag]
  simp only [State.flagged_iff]

/-- A clear keeps the flags at whose bits no 1 is written (R167). -/
theorem State.flagged_clearFlags (s : State) (value : Half) (f : Flag) :
    (s.clearFlags value).flagged f = (s.flagged f && !(value.setWidth 7).getLsbD f.bit) := by
  refine Bool.eq_iff_iff.mpr ?_
  rw [State.flagged_iff, Bool.and_eq_true, State.flagged_iff]
  have less := f.bit_lt
  simp [State.clearFlags, less]

/-- Settles O13: the clear acts on the flags as they stand when it is taken. -/
theorem secondOfCauseAndClearDecidesFlagAndNirq : Obligations.SecondOfCauseAndClearDecidesFlagAndNirq := by
  intro s f value isOpen covers
  have written : (value.setWidth 7).getLsbD f.bit = true := by
    rw [← Flag.and_mask_ne_zero, BitVec.and_comm, covers]
    cases f <;> decide
  have clears (u : State) : (u.clearFlags value).flagged f = false := by
    rw [State.flagged_clearFlags, written, Bool.not_true, Bool.and_false]
  refine ⟨?_, fun init state => ?_, ⟨_, exec_irqFlagsWrite_of_open (s := s.raise f) isOpen value, clears _, fun quiet => ?_⟩,
    ⟨_, exec_irqFlagsWrite_of_open isOpen value, ?_, fun enabled => ?_⟩, fun g apart unwritten =>
      ⟨_, exec_irqFlagsWrite_of_open (s := s.raise g) isOpen value, ?_, clears _⟩⟩
  · rw [State.nirqLow_iff]
    simp only [Flag.and_mask_ne_zero]
  · obtain ⟨-, -, -, -, -, -, -, -, -, -, -, -, -, -, -, -, -, flags, -⟩ := init.1 state
    rw [State.nirqLow, flags]
    exact bne_eq_false_iff_eq.mpr BitVec.zero_and
  · rw [Bool.eq_false_iff]
    intro low
    obtain ⟨g, flag, enable⟩ := State.nirqLow_iff.mp low
    by_cases same : g = f
    · rw [same] at flag
      exact absurd (flag.symm.trans (clears _)) (by decide)
    · rcases quiet g same with off | disabled
      · exact absurd (flag.symm.trans off) (by decide)
      · exact (Flag.and_mask_ne_zero g _).mpr enable disabled
  · rw [State.flagged_raise]
    simp
  · refine State.nirqLow_iff.mpr ⟨f, by rw [State.flagged_raise]; simp, ?_⟩
    rw [← Flag.and_mask_ne_zero]
    show s.alerts.enables &&& f.mask ≠ 0
    rw [enabled]
    cases f <;> decide
  · have kept : (value.setWidth 7).getLsbD g.bit = false := by
      rw [Bool.eq_false_iff, ne_eq, ← Flag.and_mask_ne_zero, BitVec.and_comm, unwritten]
      exact fun h => h rfl
    show ((s.raise g).clearFlags value).flagged g = true
    rw [State.flagged_clearFlags, State.flagged_raise, kept]
    simp

end Sys2Proof.Machine
end

section
/-! SUPPORT. What registers and window show (R3, R27, R71, R179, R180, R182, R185). -/

namespace Sys2Proof.Machine

open Sys2Proof

/-! ## STATUS by its fields -/

/-- A field of a register's value. -/
theorem extract_ofNat (n start len : Nat) (fits : start + len ≤ 16) :
    (BitVec.ofNat 16 n).extractLsb' start len = BitVec.ofNat len (n / 2 ^ start) := by
  refine BitVec.eq_of_getLsbD_eq fun i less => ?_
  rw [BitVec.getLsbD_extractLsb', BitVec.getLsbD_ofNat, BitVec.getLsbD_ofNat, Nat.testBit_div_two_pow]
  simp [less, show start + i < 16 by omega, Nat.add_comm]

theorem RunState.code_lt (x : RunState) : x.code < 4 := by cases x <;> decide

/-- A field of an initial segment's or a later value (R182). -/
theorem extract_extract {w : Nat} (v : BitVec w) (start len inner size : Nat) (fits : inner + size ≤ len) :
    (v.extractLsb' start len).extractLsb' inner size = v.extractLsb' (start + inner) size := by
  refine BitVec.eq_of_getLsbD_eq fun i less => ?_
  rw [BitVec.getLsbD_extractLsb', BitVec.getLsbD_extractLsb', BitVec.getLsbD_extractLsb', ← Nat.add_assoc]
  simp [less, show inner + i < len by omega]

/-- A field of a value below 2^16 that is spelled as a sum. -/
theorem ofNat_field {len a b : Nat} (same : a % 2 ^ len = b % 2 ^ len) : BitVec.ofNat len a = BitVec.ofNat len b :=
  BitVec.eq_of_toNat_eq (by rw [BitVec.toNat_ofNat, BitVec.toNat_ofNat, same])

/-! ## Window bytes -/

/-- A byte of a chain mirror entry (R185). -/
theorem State.windowByte_chain (s : State) (c : ChainNo) {i : Nat} (inside : i < 8) :
    s.windowByte (0x400 + 8 * c.val + i) = (s.chain c).mirror.getD i 0 := by
  have header : inHeaderDevice (0x400 + 8 * c.val + i) = false := by simp [inHeaderDevice]; omega
  have mirror : inMirror (0x400 + 8 * c.val + i) = true := by simp [inMirror]; omega
  have entry : (0x400 + 8 * c.val + i - 0x400) / 8 = c.val := by omega
  have place : (0x400 + 8 * c.val + i) % 8 = i := by omega
  unfold State.windowByte State.mirrorEntry
  rw [header, mirror, if_neg (by decide), if_pos rfl, if_pos (by omega), entry, place]
  rw [show Fin.ofNat 16 c.val = c from Fin.ext (Nat.mod_eq_of_lt c.isLt)]

theorem State.windowByte_ram (s : State) {a : Nat} (notHeader : ¬ (0x10 ≤ a ∧ a < 0x40))
    (notMirror : ¬ (0x400 ≤ a ∧ a < 0x680)) :
    s.windowByte a = s.window.read a := by
  unfold State.windowByte
  rw [if_neg (by simpa [inHeaderDevice] using notHeader), if_neg (by simpa [inMirror] using notMirror)]

/-- A 16-bit value shown in two bytes (R182). -/
theorem State.showsHalf_of {s : State} {a : Nat} {v : Half} (low : s.windowByte a = v.extractLsb' 0 8)
    (high : s.windowByte (a + 1) = v.extractLsb' 8 8) : s.showsHalf a v := ⟨low, high⟩

/-- A 32-bit value shown in four bytes (R182). -/
theorem State.showsWord_of {s : State} {a : Nat} {v : Word}
    (bytes : ∀ i, i < 4 → s.windowByte (a + i) = (wordBytes v).getD i 0) :
    s.showsWord a v := by
  refine ⟨State.showsHalf_of ?_ ?_, State.showsHalf_of ?_ ?_⟩
  · rw [extract_extract _ _ _ _ _ (by decide)]
    exact bytes 0 (by decide)
  · rw [extract_extract _ _ _ _ _ (by decide)]
    exact bytes 1 (by decide)
  · rw [extract_extract _ _ _ _ _ (by decide)]
    exact bytes 2 (by decide)
  · rw [extract_extract _ _ _ _ _ (by decide)]
    exact bytes 3 (by decide)

/-- A bit of a register's value. -/
theorem bit_ofNat {n i : Nat} {b : Bool} (inside : i < 16) (bit : n / 2 ^ i % 2 = b.toNat) :
    (BitVec.ofNat 16 n).getLsbD i = b := by
  rw [BitVec.getLsbD_ofNat, Nat.testBit_eq_decide_div_mod_eq, bit, decide_eq_true inside, Bool.true_and]
  cases b <;> rfl

/-- The registers past the named ones read 0 (R179). -/
theorem State.register_high (s : State) {n : Byte} (high : 5 ≤ n.toNat) : s.register n = 0 := by
  have apart (m : Byte) (low : m.toNat < 5) : n ≠ m := fun same => by
    rw [same] at high
    omega
  rw [State.register, if_neg (apart 0 (by decide)), if_neg (apart 1 (by decide)), if_neg (apart 3 (by decide)),
    if_neg (apart 4 (by decide))]

theorem State.irqFlags_bit (s : State) {i : Nat} (inside : i < 16) :
    (s.register 3).getLsbD i = s.alerts.flags.getLsbD i := by
  have shown : s.register 3 = s.alerts.flags.setWidth 16 := rfl
  rw [shown, BitVec.getLsbD_setWidth, decide_eq_true inside, Bool.true_and]

theorem State.irqEnable_bit (s : State) (i : Nat) : (s.register 4).getLsbD i =
    (decide (i < 16) && (s.alerts.enables.getLsbD i || !decide (i < 8) && s.alerts.level.getLsbD (i - 8))) := by
  have shown : s.register 4 = s.alerts.enables.setWidth 16 ||| (s.alerts.level.setWidth 16 <<< 8) := rfl
  rw [shown, BitVec.getLsbD_or, BitVec.getLsbD_setWidth, BitVec.getLsbD_shiftLeft, BitVec.getLsbD_setWidth]
  by_cases inside : i < 16
  · simp [inside, show i - 8 < 16 by omega]
  · simp [inside]

/-- A field of the header, from its byte on. -/
theorem State.header_word (s : State) {n : Nat} {v : Word} (inside : n + 4 ≤ 48)
    (bytes : ∀ i, i < 4 → s.headerDevice.getD (n + i) 0 = (wordBytes v).getD i 0) : s.showsWord (0x10 + n) v :=
  State.showsWord_of fun i less => by rw [Nat.add_assoc, s.windowByte_header (by omega), bytes i less]

/-- Settles O14: the registers field by field, and the window by who fills it. -/
theorem registersAndWindowShowState : Obligations.RegistersAndWindowShowState := by
  intro s
  refine ⟨fun refusal taken warm => ?_, ?_, fun c a at_c => ?_, fun n a at_n =>
    ⟨fun undefined i inside => ?_, fun defined => ?_⟩,
    fun a notHeader notMirror => s.windowByte_ram notHeader notMirror⟩
  · have code := s.run.state.code_lt
    have reading := s.read.isSome.toNat_le
    have held := s.pages.current.isSome.toNat_le
    have status : s.register 1 = BitVec.ofNat 16 (s.run.state.code + 4 * s.run.refusal + 64 * s.requests.taken.length +
        512 * s.warmCount + 4096 * s.read.isSome.toNat + 8192 * s.pages.current.isSome.toNat) := rfl
    refine ⟨rfl, rfl, fun n high => s.register_high high, ?_, ?_, ?_, ?_, ?_, ?_, ?_, fun i inside => s.irqFlags_bit inside,
      fun i inside => ?_, fun i inside => ?_⟩
    · rw [status, extract_ofNat _ _ _ (by decide)]
      exact ofNat_field (by omega)
    · rw [status, extract_ofNat _ _ _ (by decide)]
      exact ofNat_field (by omega)
    · rw [status, extract_ofNat _ _ _ (by decide)]
      exact ofNat_field (by omega)
    · rw [status, extract_ofNat _ _ _ (by decide)]
      exact ofNat_field (by omega)
    · rw [status]
      exact bit_ofNat (by decide) (by omega)
    · rw [status]
      exact bit_ofNat (by decide) (by omega)
    · rw [status, extract_ofNat _ _ _ (by decide)]
      exact ofNat_field (b := 0) (by omega)
    · rw [State.irqEnable_bit]
      simp [inside, show i < 16 by omega]
    · rw [State.irqEnable_bit, BitVec.getLsbD_of_ge s.alerts.enables _ (by omega)]
      simp [show i + 8 < 16 by omega]
  · refine ⟨s.header_word (n := 0) (by decide) fun i less => ?_, ⟨s.windowByte_header (i := 4) (by decide),
        s.windowByte_header (i := 5) (by decide)⟩, ⟨s.windowByte_header (i := 6) (by decide),
        s.windowByte_header (i := 7) (by decide)⟩, s.header_word (n := 8) (by decide) fun i less => ?_,
      s.header_word (n := 12) (by decide) fun i less => ?_, s.header_word (n := 16) (by decide) fun i less => ?_,
      s.header_word (n := 20) (by decide) fun i less => ?_, s.header_word (n := 24) (by decide) fun i less => ?_,
      s.header_word (n := 28) (by decide) fun i less => ?_, fun a low high => ?_⟩
    · interval_cases i <;> rfl
    · interval_cases i <;> rfl
    · interval_cases i <;> rfl
    · interval_cases i <;> rfl
    · interval_cases i <;> rfl
    · interval_cases i <;> rfl
    · interval_cases i <;> rfl
    · obtain ⟨i, rfl⟩ := Nat.exists_eq_add_of_le low
      rw [show 0x30 + i = 0x10 + (32 + i) by omega, s.windowByte_header (by omega), State.headerDevice,
        List.getD_append_right _ _ _ _ (by simp [wordBytes_length, halfBytes_length])]
      exact List.getElem?_getD_replicate_default_eq ..
  · subst at_c
    have byte {i : Nat} (inside : i < 8) := s.windowByte_chain c inside
    refine ⟨?_, byte (i := 1) (by decide), ⟨byte (i := 2) (by decide), byte (i := 3) (by decide)⟩,
      ⟨byte (i := 4) (by decide), byte (i := 5) (by decide)⟩, byte (i := 6) (by decide), byte (i := 7) (by decide)⟩
    refine (byte (i := 0) (by decide)).trans ?_
    show (s.chain c).state.code = _
    cases (s.chain c).state <;> rfl
  · subst at_n
    rw [Nat.mul_comm 8, s.windowByte_group n inside, GroupRec.mirror, if_neg (by rw [undefined]; decide)]
    exact List.getElem?_getD_replicate_default_eq ..
  · subst at_n
    rw [Nat.mul_comm 8]
    have byte {i : Nat} (inside : i < 8) := s.windowByte_group n inside
    have mirror : (s.group n).mirror = [(s.group n).state.mirrorFlags, BitVec.ofNat 8 (s.group n).chain.val] ++
        halfBytes (s.group n).last ++ halfBytes (s.group n).trips ++ halfBytes (s.group n).lastTrip := if_pos defined
    rw [mirror] at byte
    refine ⟨fun i inside => ?_, byte (i := 1) (by decide), ⟨byte (i := 2) (by decide), byte (i := 3) (by decide)⟩,
      ⟨byte (i := 4) (by decide), byte (i := 5) (by decide)⟩, byte (i := 6) (by decide), byte (i := 7) (by decide)⟩
    rw [show s.windowByte (0x480 + n.val * 8) = (s.group n).state.mirrorFlags from byte (i := 0) (by decide)]
    cases (s.group n).state <;> interval_cases i <;> rfl

end Sys2Proof.Machine
end

section
/-! SUPPORT. The items that only some commands change: geometry, refusal, signature, epoch, enables, alert level (R153,
R154, R164, R165). -/

namespace Sys2Proof.Machine

open Sys2Proof

/-- `t` has the enables and the alert level of `s`. -/
def State.SameEnables (s t : State) : Prop := t.alerts.enables = s.alerts.enables ∧ t.alerts.level = s.alerts.level

/-- `t` has the geometry, the items of the last START, the enables and the alert level of `s`. -/
structure State.SameItems (s t : State) : Prop where
  geometry : t.run.geometry = s.run.geometry
  refusal : t.run.refusal = s.run.refusal
  signature : t.run.signature = s.run.signature
  epoch : t.run.epoch = s.run.epoch
  enables : s.SameEnables t

theorem State.SameItems.refl (s : State) : s.SameItems s := ⟨rfl, rfl, rfl, rfl, rfl, rfl⟩

theorem State.SameItems.trans {s t u : State} (h : s.SameItems t) (k : t.SameItems u) : s.SameItems u :=
  ⟨k.geometry.trans h.geometry, k.refusal.trans h.refusal, k.signature.trans h.signature, k.epoch.trans h.epoch,
    k.enables.1.trans h.enables.1, k.enables.2.trans h.enables.2⟩

theorem State.SameItems.of_works {s t : State} (h : s.Works t) : s.SameItems t :=
  ⟨by rw [h.run], by rw [h.run], by rw [h.run], by rw [h.run], h.enables, h.level⟩

theorem State.SameItems.of_path {s t : State} (h : s.recordPath t) : s.SameItems t := by
  obtain ⟨_, _, _, _, rfl, -⟩ := h
  exact ⟨rfl, rfl, rfl, rfl, rfl, rfl⟩

section
variable (s : State)

theorem State.drainTest_items : s.SameItems s.drainTest := by
  obtain ⟨_, _, _, _, _, _, _, same, -⟩ := s.drainTest_changes
  rw [same]
  exact ⟨rfl, rfl, rfl, rfl, rfl, rfl⟩

theorem State.drainEnd_items : s.SameItems s.drainEnd := by
  obtain ⟨_, _, _, _, same, -⟩ := s.closePage_path .stop
  rw [State.drainEnd, same]
  exact ⟨rfl, rfl, rfl, rfl, rfl, rfl⟩

theorem State.pageWork_items : s.SameItems s.pageWork :=
  have begun : s.SameItems (s.setFrame { s.frame with pageWork := false }) := ⟨rfl, rfl, rfl, rfl, rfl, rfl⟩
  (begun.trans (.of_path s.pageWriterWork_path)).trans (State.drainTest_items _)

theorem State.takeSlot_items (k : SlotNo) : s.SameItems (s.takeSlot k) :=
  have begun : s.SameItems (s.beginTake k) := ⟨rfl, rfl, rfl, rfl, rfl, rfl⟩
  begun.trans (.of_works (s.takeSlot_works k))

theorem State.sweepOver_items (l : List SlotNo) : s.SameItems (s.sweepOver l) := by
  induction l generalizing s with
  | nil => exact .refl s
  | cons k l ih =>
    unfold State.sweepOver
    split
    · split
      · exact (s.takeSlot_items k).trans (ih _)
      · exact .refl s
    · exact ih s

theorem State.blockWork_items (b : FrameBlock) : s.SameItems (s.blockWork b) := by
  cases b with
  | scanScheduler =>
    have begun : s.SameItems (s.setFrame { s.frame with expiries := [] }) := ⟨rfl, rfl, rfl, rfl, rfl, rfl⟩
    exact begun.trans (.of_works (State.foldl_works State.periodExpired_works _ _))
  | chainController =>
    have begun : s.SameItems (s.setFrame { s.frame with coolDowns := [] }) := ⟨rfl, rfl, rfl, rfl, rfl, rfl⟩
    exact begun.trans (.of_works (State.foldl_works State.examine_works _ _))
  | pageWriter =>
    show s.SameItems s.takePageWork
    unfold State.takePageWork
    split
    · exact s.pageWork_items
    · exact .refl s
  | requestEngine =>
    have begun : s.SameItems (s.setFrame { s.frame with sweep := [] }) := ⟨rfl, rfl, rfl, rfl, rfl, rfl⟩
    exact begun.trans (State.sweepOver_items _ _)

theorem State.foldl_blockWork_items (order : List FrameBlock) : s.SameItems (order.foldl State.blockWork s) := by
  induction order generalizing s with
  | nil => exact .refl s
  | cons b order ih => exact (s.blockWork_items b).trans (ih _)

theorem State.finishFrame_items : s.SameItems s.finishFrame := s.foldl_blockWork_items leftoverOrder

theorem State.expireFrame_items (order : List FrameBlock) : s.SameItems (s.expireFrame order) := by
  unfold State.expireFrame
  split
  · exact .refl s
  · exact .refl s
  · have opened : s.SameItems s.openRunningFrame := ⟨rfl, rfl, rfl, rfl, rfl, rfl⟩
    exact opened.trans (State.foldl_blockWork_items _ order)
  · have opened : s.SameItems s.openDrainingFrame := ⟨rfl, rfl, rfl, rfl, rfl, rfl⟩
    exact opened.trans (State.foldl_blockWork_items _ order)

theorem State.enterDraining_items : s.SameItems s.enterDraining := by
  obtain ⟨_, _, _, _, same⟩ := State.answerAll_changes _ (s.takenAscending.filter fun k => !s.belongsToRead k)
    (Answer.plain .stopped)
  rw [State.enterDraining, same]
  exact ⟨rfl, rfl, rfl, rfl, rfl, rfl⟩

theorem State.secondStop_items : s.SameItems s.secondStop :=
  have discarded : (s.abandonRead (Answer.plain .stopped)).SameItems (s.abandonRead (Answer.plain .stopped)).discardQueue :=
    ⟨rfl, rfl, rfl, rfl, rfl, rfl⟩
  ((State.SameItems.of_works (s.abandonRead_works _)).trans discarded).trans (State.drainEnd_items _)

theorem State.stopCommand_items : s.SameItems s.stopCommand := by
  unfold State.stopCommand
  split
  · exact .refl s
  · exact .refl s
  · exact (s.finishFrame_items.trans (State.enterDraining_items _)).trans (State.drainTest_items _)
  · split
    · exact s.finishFrame_items.trans (State.secondStop_items _)
    · exact s.finishFrame_items

theorem State.takeNext_items (kind : Option Kind) : s.SameItems (s.takeNext kind) := by
  unfold State.takeNext
  split
  · exact .refl s
  · split
    · rename_i k rest _ _
      have begun : s.SameItems (s.setFrame { s.frame with sweep := rest }) := ⟨rfl, rfl, rfl, rfl, rfl, rfl⟩
      exact begun.trans (State.takeSlot_items _ k)
    · exact .refl s

theorem State.completeRead_items (rd : ReadInProgress) : s.SameItems (s.completeRead rd) := by
  rw [State.completeRead_eq]
  exact ((State.SameItems.of_works (s.finishRead_works rd)).trans (.of_works (State.readerChoice_works _))).trans
    (State.drainTest_items _)

theorem State.hostByte_items (a : WindowAddr) (b : Byte) : s.SameItems (s.hostByte a b) := by
  unfold State.hostByte
  split
  · exact ⟨rfl, rfl, rfl, rfl, rfl, rfl⟩
  · exact .refl s

/-- A soft reset keeps the geometry in force, the enables and the alert level (R162). -/
theorem State.softReset_keeps : s.softReset.run.geometry = s.run.geometry ∧ s.SameEnables s.softReset := by
  obtain ⟨t, works, reset⟩ := s.softReset_works
  refine ⟨by rw [s.softReset_run], ?_⟩
  have page : t.abandonPage.alerts = t.alerts := by
    unfold State.abandonPage
    split <;> rfl
  rw [reset]
  show t.abandonPage.alerts.enables = _ ∧ t.abandonPage.alerts.level = _
  rw [page]
  exact ⟨works.enables, works.level⟩

theorem State.softResetCommand_keeps :
    s.softResetCommand.run.geometry = s.run.geometry ∧ s.SameEnables s.softResetCommand := by
  have resets : s.finishFrame.softReset.run.geometry = s.run.geometry ∧ s.SameEnables s.finishFrame.softReset := by
    obtain ⟨geometry, enables, level⟩ := s.finishFrame.softReset_keeps
    have before := s.finishFrame_items
    exact ⟨geometry.trans before.geometry, enables.trans before.enables.1, level.trans before.enables.2⟩
  unfold State.softResetCommand
  split
  · exact ⟨rfl, rfl, rfl⟩
  all_goals exact resets

theorem State.startCommand_enables : s.SameEnables s.startCommand := by
  unfold State.startCommand
  split
  case h_2 => split <;> exact ⟨rfl, rfl⟩
  all_goals exact ⟨rfl, rfl⟩

end

/-- What a register write does not touch. -/
theorem State.hostRegisterWrite_items {s : State} {number : Byte} {value : Half}
    (written : s.SameItems (s.registerWritten number value)) : s.SameItems (s.hostRegisterWrite number value) := by
  unfold State.hostRegisterWrite
  split
  · exact ⟨written.geometry, written.refusal, written.signature, written.epoch, written.enables⟩
  · exact .refl s

theorem State.hostRegisterWrite_enables {s : State} {number : Byte} {value : Half}
    (written : s.SameEnables (s.registerWritten number value)) : s.SameEnables (s.hostRegisterWrite number value) := by
  unfold State.hostRegisterWrite
  split
  · exact written
  · exact ⟨rfl, rfl⟩

theorem State.hostRegisterWrite_geometry {s : State} {number : Byte} {value : Half}
    (written : (s.registerWritten number value).run.geometry = s.run.geometry) :
    (s.hostRegisterWrite number value).run.geometry = s.run.geometry := by
  unfold State.hostRegisterWrite
  split
  · exact written
  · rfl

/-- The commands that may change one of the items (R153, R154, R164, R165). -/
def changesItems : Instr → Bool
  | .hardReset => true
  | .start _ => true
  | .softReset _ => true
  | .irqEnableWrite _ => true
  | .transactionBegin _ _ => true
  | _ => false

/-- Every other command keeps them. -/
theorem exec_items {c : Instr} {s t : State} (ran : exec c s = .next t) (other : changesItems c = false) :
    s.SameItems t := by
  cases c with
  | hardReset => cases other
  | start high => cases other
  | softReset high => cases other
  | irqEnableWrite value => cases other
  | transactionBegin lead bits => cases other
  | nresetRise =>
    simp only [exec, execNresetRise] at ran
    split at ran <;> cases ran <;> exact ⟨rfl, rfl, rfl, rfl, rfl, rfl⟩
  | initEnd =>
    simp only [exec, execInitEnd] at ran
    split at ran <;> cases ran <;> exact ⟨rfl, rfl, rfl, rfl, rfl, rfl⟩
  | stop high =>
    cases ran
    refine State.hostRegisterWrite_items ?_
    rw [State.registerWritten_stop]
    exact s.stopCommand_items
  | irqFlagsWrite value =>
    cases ran
    exact State.hostRegisterWrite_items ⟨rfl, rfl, rfl, rfl, rfl, rfl⟩
  | registerWriteIgnored number value =>
    simp only [exec, execRegisterWriteIgnored] at ran
    split at ran <;> cases ran
    rename_i wf
    refine State.hostRegisterWrite_items ?_
    rw [State.registerWritten_of_ignored wf]
    exact .refl s
  | windowWrite first data =>
    have written (addr : WindowAddr) : s.SameItems (s.windowData addr data) := by
      have byte := s.hostByte_items addr data
      exact ⟨byte.geometry, byte.refusal, byte.signature, byte.epoch, byte.enables⟩
    simp only [exec, execWindowWrite] at ran
    split at ran
    · split at ran <;> cases ran
      · exact written _
      · exact written _
      · exact .refl s
    · cases ran
      exact .refl s
  | windowRead first =>
    simp only [exec, execWindowRead] at ran
    split at ran
    · split at ran <;> cases ran <;> exact ⟨rfl, rfl, rfl, rfl, rfl, rfl⟩
    · cases ran
      exact .refl s
  | transactionEnd =>
    cases ran
    exact ⟨rfl, rfl, rfl, rfl, rfl, rfl⟩
  | frameExpiry order =>
    simp only [exec, execFrameExpiry] at ran
    split at ran <;> cases ran
    exact s.finishFrame_items.trans (State.expireFrame_items _ order)
  | periodExpiry c =>
    simp only [exec, execPeriodExpiry] at ran
    split at ran
    · rename_i d rest _
      split at ran <;> cases ran
      · have begun : s.SameItems (s.setFrame { s.frame with expiries := rest }) := ⟨rfl, rfl, rfl, rfl, rfl, rfl⟩
        exact begun.trans (.of_works (State.periodExpired_works _ c))
      · exact .refl s
    · cases ran
      exact .refl s
  | idleCoolDown c =>
    simp only [exec, execIdleCoolDown] at ran
    split at ran <;> cases ran
    · have begun : s.SameItems (s.setFrame { s.frame with coolDowns := s.frame.coolDowns.filter (· != c) }) :=
        ⟨rfl, rfl, rfl, rfl, rfl, rfl⟩
      exact begun.trans (.of_works (State.examine_works _ c))
    · exact .refl s
  | timerSeal =>
    simp only [exec, execTimerSeal] at ran
    split at ran <;> cases ran
    · exact s.pageWork_items
    · exact .refl s
  | pageAcquisition =>
    simp only [exec, execPageAcquisition] at ran
    split at ran <;> cases ran
    · exact s.pageWork_items
    · exact .refl s
  | overrunRecord =>
    simp only [exec, execOverrunRecord] at ran
    split at ran <;> cases ran
    · obtain ⟨r, placed⟩ := s.placeOverrun_changes
      have begun : s.SameItems s.placeOverrun := by
        rw [placed]
        exact ⟨rfl, rfl, rfl, rfl, rfl, rfl⟩
      exact begun.trans (.of_path (State.pump_path _))
    · exact .refl s
  | drainEnd => cases ran; exact s.drainTest_items
  | settleCompletion c =>
    simp only [exec, execSettleCompletion] at ran
    split at ran
    · cases ran
      exact .of_works (s.modChain_works c _)
    · split at ran <;> cases ran
      · have warmed : s.SameItems { s.modChain c (fun r => { r with state := .warm, settle := none, idle := 0 }) with
            lru := s.lru ++ [c] } := ⟨rfl, rfl, rfl, rfl, rfl, rfl⟩
        exact warmed.trans (.of_works (State.readerChoice_works _))
      · exact .refl s
  | excitationGrant =>
    simp only [exec, execExcitationGrant] at ran
    split at ran <;> cases ran
    · rename_i granted
      exact .of_works (State.works_of_granted (State.grantOne_changes granted))
    · exact .refl s
  | readStart => cases ran; exact .of_works s.readerChoice_works
  | readCompletion =>
    simp only [exec, execReadCompletion] at ran
    split at ran
    · split at ran <;> cases ran
      · exact s.completeRead_items _
      · exact .refl s
    · cases ran
      exact .refl s
  | bitTime inputs =>
    simp only [exec, execBitTime] at ran
    split at ran <;> cases ran <;> exact ⟨rfl, rfl, rfl, rfl, rfl, rfl⟩
  | setChain => cases ran; exact s.takeNext_items _
  | readChain => cases ran; exact s.takeNext_items _
  | parkChain => cases ran; exact s.takeNext_items _
  | setGroup => cases ran; exact s.takeNext_items _
  | rearmGroup => cases ran; exact s.takeNext_items _
  | dropGroup => cases ran; exact s.takeNext_items _
  | flush => cases ran; exact s.takeNext_items _
  | badKind => cases ran; exact s.takeNext_items _

/-- Settles O11: START, SOFT_RESET and a write of IRQ_ENABLE one by one, and the others together. -/
theorem itemsChangeOnlyAtTheirCommands : Obligations.ItemsChangeOnlyAtTheirCommands := by
  intro c s t ran notReset notBegin
  by_cases other : changesItems c = false
  · have same := exec_items ran other
    exact ⟨fun _ => same.geometry, fun _ _ => ⟨same.refusal, same.signature, same.epoch⟩, fun _ => same.enables⟩
  · cases c with
    | hardReset => exact absurd rfl notReset
    | transactionBegin lead bits => exact absurd rfl (notBegin lead bits)
    | start high =>
      cases ran
      refine ⟨fun notStart => absurd rfl (notStart high), fun notStart => absurd rfl (notStart high), fun _ => ?_⟩
      refine State.hostRegisterWrite_enables ?_
      rw [State.registerWritten_start]
      exact s.startCommand_enables
    | softReset high =>
      cases ran
      obtain ⟨geometry, enables⟩ := s.softResetCommand_keeps
      refine ⟨fun _ => State.hostRegisterWrite_geometry ?_, fun _ notSoft => absurd rfl (notSoft high),
        fun _ => State.hostRegisterWrite_enables ?_⟩
      · rwa [State.registerWritten_softReset]
      · rwa [State.registerWritten_softReset]
    | irqEnableWrite value =>
      cases ran
      have run : (s.hostRegisterWrite 4 value).run = s.run := by
        unfold State.hostRegisterWrite
        split
        · show (s.registerWritten 4 value).run = s.run
          rw [State.registerWritten, if_neg (by decide), if_neg (by decide), if_pos rfl]
          split <;> rfl
        · rfl
      exact ⟨fun _ => by rw [run], fun _ _ => by rw [run]; exact ⟨rfl, rfl, rfl⟩,
        fun notWrite => absurd rfl (notWrite value)⟩
    | _ => exact absurd rfl other

end Sys2Proof.Machine
end

section
/-! SUPPORT. Window bytes written by the host and read by it: the write filter, and the captures (R175 to R178). -/

namespace Sys2Proof.Machine

open Sys2Proof

theorem slotOwnerAccepts_iff (held b : Byte) :
    slotOwnerAccepts held b = true ↔ (b = 0 ∨ b = 1) ∧ held ≠ 2 := by
  simp [slotOwnerAccepts, slotEmpty, slotPosted, slotTaken]

theorem pageOwnerAccepts_iff (held b : Byte) :
    pageOwnerAccepts held b = true ↔ (b = 0 ∨ b = 1) ∧ held ≠ 2 := by
  simp [pageOwnerAccepts, pageNone, pageFree, pageFilling]

/-- The write filter, one line for each range of addresses that takes anything (R178). -/
theorem filterAccepts_iff (a : Nat) (held b : Byte) :
    filterAccepts a held b = true ↔
      a < 0x10 ∨
      (0x40 ≤ a ∧ a < 0x340 ∧ (a - 0x40) % 0x30 = 0 ∧ (b = 0 ∨ b = 1) ∧ held ≠ 2) ∨
      (0x40 ≤ a ∧ a < 0x340 ∧ 1 ≤ (a - 0x40) % 0x30 ∧ (a - 0x40) % 0x30 < 16) ∨
      (0x340 ≤ a ∧ a < 0x3E0 ∧ (a - 0x340) % 4 = 0 ∧ (b = 0 ∨ b = 1) ∧ held ≠ 2) ∨
      (0x3E0 ≤ a ∧ a < 0x400) ∨ (0x680 ≤ a ∧ a < 0x700) ∨ 0x2F00 ≤ a := by
  unfold filterAccepts
  split_ifs with header device board owner table entry mailbox mirror spare records
  · exact ⟨fun _ => .inl header, fun _ => rfl⟩
  · constructor
    · exact fun no => nomatch no
    · omega
  · rw [slotOwnerAccepts_iff]
    constructor
    · exact fun accepted => .inr (.inl ⟨by omega, board, owner, accepted⟩)
    · rintro (_ | ⟨_, _, _, accepted⟩ | _ | _ | _ | _ | _)
      on_goal 2 => exact accepted
      all_goals omega
  · rw [decide_eq_true_iff]
    omega
  · rw [pageOwnerAccepts_iff]
    constructor
    · exact fun accepted => .inr (.inr (.inr (.inl ⟨by omega, table, entry, accepted⟩)))
    · rintro (_ | _ | _ | ⟨_, _, _, accepted⟩ | _ | _ | _)
      on_goal 4 => exact accepted
      all_goals omega
  all_goals simp only [true_iff, false_iff]; omega

/-- A byte that the filter lets through stands at its address, any other changes nothing (R178, R181). -/
theorem State.window_hostByte {s : State} (law : s.windowLaw) (addr : WindowAddr) (b : Byte) (x : Nat) :
    (s.hostByte addr b).window.read x =
      if x = addr.toNat ∧ s.run.state ≠ .init ∧ filterAccepts addr.toNat (s.window.read addr.toNat) b = true
      then b else s.window.read x := by
  unfold State.hostByte
  split
  next taken =>
    rw [Bool.and_eq_true, decide_eq_true_iff] at taken
    show (s.window.write addr.toNat b).read x = _
    rw [Memory.read_write law]
    simp only [taken, ne_eq, not_false_eq_true, and_self, and_true]
  next dropped =>
    rw [Bool.and_eq_true, decide_eq_true_iff] at dropped
    rw [if_neg fun taken => dropped taken.2]

/-- Nothing but the window and the port takes part in a window write (R175). -/
theorem State.windowData_eq (s : State) (addr : WindowAddr) (b : Byte) :
    s.windowData addr b =
      { s with window := (s.hostByte addr b).window, port := Port.fresh (.windowWrite (addr + 1)) } := by
  unfold State.windowData State.hostByte
  split <;> rfl

/-- A window write at an open port goes to the address it brought, or else to where the port stands (R175). -/
theorem exec_windowWrite {s : State} {first : Option Half} {addr : WindowAddr} (opened : s.portOpen = true)
    (goes : first.map (BitVec.setWidth 14) = some addr ∨ (first = none ∧ s.port.phase = .windowWrite addr)) (b : Byte) :
    exec (.windowWrite first b) s = .next (s.windowData addr b) := by
  show execWindowWrite first b s = _
  unfold execWindowWrite
  rw [if_pos opened]
  cases first with
  | some half =>
    obtain brought | ⟨absent, -⟩ := goes
    · cases brought
      rfl
    · cases absent
  | none =>
    obtain brought | ⟨-, stands⟩ := goes
    · cases brought
    · simp only [stands]

/-- A window read that brings its address (R176). -/
theorem exec_windowRead_some {s : State} (opened : s.portOpen = true) (half : Half) :
    exec (.windowRead (some half)) s = .next (s.beginRead (half.setWidth 14)) := by
  show execWindowRead (some half) s = _
  rw [execWindowRead, if_pos opened]

/-- A window read where the port stands (R176). -/
theorem exec_windowRead_none {s : State} {addr : WindowAddr} (opened : s.portOpen = true)
    (stands : s.port.phase = .windowRead addr) : exec (.windowRead none) s = .next (s.takeData s.port addr) := by
  show execWindowRead none s = _
  unfold execWindowRead
  rw [if_pos opened]
  simp only [stands]

section
variable {s : State} {p : Port} {a : Nat}

theorem State.readData_init (init : s.run.state = .init) : s.readData p a = (0, p.mirrorCapture) := by
  rw [State.readData, if_pos init]

theorem State.readData_header (ready : s.run.state ≠ .init) (header : a < 0x40) :
    s.readData p a = ((p.headerCapture.map (·.getD a 0)).getD (s.windowByte a), p.mirrorCapture) := by
  rw [State.readData, if_neg ready, if_pos header]
  cases p.headerCapture <;> rfl

theorem State.readData_live (ready : s.run.state ≠ .init) (low : 0x40 ≤ a) (live : inMirror a = false) :
    s.readData p a = (s.windowByte a, p.mirrorCapture) := by
  rw [State.readData, if_neg ready, if_neg (by omega), if_neg (by rw [live]; decide)]

theorem inMirror_iff : inMirror a = true ↔ 0x400 ≤ a ∧ a < 0x680 := by
  simp [inMirror]

theorem State.readData_entry (ready : s.run.state ≠ .init) (mirror : inMirror a = true) (start : a % 8 = 0) :
    s.readData p a = (s.windowByte a, some (s.mirrorEntry a)) := by
  have := inMirror_iff.mp mirror
  rw [State.readData, if_neg ready, if_neg (by omega), if_pos mirror, if_pos start]

theorem State.readData_captured (ready : s.run.state ≠ .init) (mirror : inMirror a = true) (inside : a % 8 ≠ 0)
    {bytes : List Byte} (captured : p.mirrorCapture = some ((s.mirrorEntry a).1, bytes)) :
    s.readData p a = (bytes.getD (a % 8) 0, p.mirrorCapture) := by
  have := inMirror_iff.mp mirror
  rw [State.readData, if_neg ready, if_neg (by omega), if_pos mirror, if_neg inside]
  simp only [captured, if_true]

theorem State.readData_uncaptured (ready : s.run.state ≠ .init) (mirror : inMirror a = true) (inside : a % 8 ≠ 0)
    (none : p.mirrorCapture = none) : s.readData p a = (s.windowByte a, p.mirrorCapture) := by
  have := inMirror_iff.mp mirror
  rw [State.readData, if_neg ready, if_neg (by omega), if_pos mirror, if_neg inside, none]

/-- The header capture at hand holds the header's own bytes. -/
theorem State.header_getD (header : a < 0x40) : s.header.getD a 0 = s.windowByte a := by
  simp [State.header, List.getD, header]

/-- The first byte of a read outside INIT is the live one: the captures are taken at that instant (R177). -/
theorem State.readData_readPort (ready : s.run.state ≠ .init) (addr : WindowAddr) :
    s.readData (s.readPort addr) addr.toNat =
      (s.windowByte addr.toNat,
        if inMirror addr.toNat = true ∧ addr.toNat % 8 = 0 then some (s.mirrorEntry addr.toNat) else none) := by
  have uncaptured : (s.readPort addr).mirrorCapture = none := rfl
  by_cases header : addr.toNat < 0x40
  · have captured : (s.readPort addr).headerCapture = some s.header := by
      simp [State.readPort, header, ready]
    rw [State.readData_header ready header, captured, uncaptured, if_neg]
    · exact congrArg (·, _) (State.header_getD header)
    · rw [inMirror_iff]
      omega
  · cases mirror : inMirror addr.toNat with
    | false => exact (State.readData_live ready (by omega) mirror).trans (by simp [uncaptured])
    | true =>
      by_cases start : addr.toNat % 8 = 0
      · rw [State.readData_entry ready mirror start, if_pos ⟨rfl, start⟩]
      · rw [State.readData_uncaptured ready mirror start uncaptured, if_neg fun both => start both.2, uncaptured]

end

/-- Settles O15, the filter by `filterAccepts_iff`. -/
theorem windowWriteMeetsFilter : Obligations.WindowWriteMeetsFilter := by
  rintro s first b addr _ opened goes rfl law
  refine ⟨_, exec_windowWrite opened goes b, s.windowData_eq addr b, fun x other => ?_, ?_⟩
  · rw [s.windowData_eq]
    exact (State.window_hostByte law addr b x).trans (if_neg fun same => other same.1)
  · rw [s.windowData_eq]
    refine (State.window_hostByte law addr b _).trans (if_congr ?_ rfl rfl)
    rw [filterAccepts_iff]
    exact and_iff_right rfl

/-- Settles O16: the first byte from the live window, a later one by the range its address lies in. -/
theorem windowReadServesCapturesOrLiveBytes : Obligations.WindowReadServesCapturesOrLiveBytes := by
  refine fun s opened => ⟨?_, ?_⟩
  · rintro half _ rfl
    refine ⟨_, exec_windowRead_some opened half, rfl, rfl, rfl, fun init => ?_, fun ready => ?_⟩
    · have first := State.readData_init (p := s.readPort (half.setWidth 14)) (a := (half.setWidth 14).toNat) init
      refine ⟨congrArg (some ∘ Prod.fst) first, ?_, congrArg Prod.snd first⟩
      show (if _ then _ else _) = _
      simp [init]
    · have first := State.readData_readPort ready (half.setWidth 14)
      refine ⟨congrArg (some ∘ Prod.fst) first, ?_, congrArg Prod.snd first⟩
      show (if _ then _ else _) = _
      simp [ready]
  · rintro addr _ stands rfl
    have driven {value : Byte × Option (Nat × List Byte)} (taken : s.readData s.port addr.toNat = value) :
        (s.takeData s.port addr).port.sdo = some value.1 ∧ (s.takeData s.port addr).port.mirrorCapture = value.2 := by
      subst taken
      exact ⟨rfl, rfl⟩
    refine ⟨_, exec_windowRead_none opened stands, rfl, rfl, rfl, fun init => driven (State.readData_init init),
      fun ready => ⟨fun bytes header captured => ?_, fun header captured => ?_, fun low live => ?_,
        fun mirror start => driven (State.readData_entry ready mirror start), fun bytes mirror inside captured => ?_,
        fun mirror inside captured => ?_⟩⟩
    · refine (driven (State.readData_header ready header)).1.trans ?_
      rw [captured]
      rfl
    · refine (driven (State.readData_header ready header)).1.trans ?_
      rw [captured]
      rfl
    · exact (driven (State.readData_live ready low live)).1
    · exact driven (State.readData_captured ready mirror inside captured)
    · exact (driven (State.readData_uncaptured ready mirror inside captured)).1

end Sys2Proof.Machine
end

section
/-! SUPPORT. Transactions, bit by bit and byte by byte (R174 to R179, R181). -/

namespace Sys2Proof.Machine

open Sys2Proof

/-! ## nRESET stays as it is -/

section
variable (s : State)

theorem State.finishFrame_nresetLow : s.finishFrame.run.nresetLow = s.run.nresetLow := by
  rcases s.foldl_blockWork_run leftoverOrder with same | ⟨-, ended⟩
  · exact congrArg RunControl.nresetLow same
  · exact (congrArg RunControl.nresetLow ended :)

theorem State.startCommand_nresetLow : s.startCommand.run.nresetLow = s.run.nresetLow := by
  unfold State.startCommand
  split
  case h_2 => split <;> rfl
  all_goals rfl

theorem State.stopCommand_nresetLow : s.stopCommand.run.nresetLow = s.run.nresetLow := by
  have entered : s.finishFrame.enterDraining.run.nresetLow = s.run.nresetLow := by
    rw [State.enterDraining_run]
    exact s.finishFrame_nresetLow
  unfold State.stopCommand
  split
  · rfl
  · rfl
  · rcases s.finishFrame.enterDraining.drainTest_run with same | ⟨-, ended⟩
    · rw [same, entered]
    · rw [ended, ← entered]
  · split
    · rw [State.secondStop_run]
      exact s.finishFrame_nresetLow
    · exact s.finishFrame_nresetLow

theorem State.softResetCommand_nresetLow : s.softResetCommand.run.nresetLow = s.run.nresetLow := by
  have reset : s.finishFrame.softReset.run.nresetLow = s.run.nresetLow := by
    rw [State.softReset_run]
    exact s.finishFrame_nresetLow
  unfold State.softResetCommand
  split
  · rfl
  all_goals exact reset

theorem State.registerWritten_nresetLow (number : Byte) (value : Half) :
    (s.registerWritten number value).run.nresetLow = s.run.nresetLow := by
  unfold State.registerWritten
  split_ifs
  · exact s.startCommand_nresetLow
  · exact s.stopCommand_nresetLow
  · exact s.softResetCommand_nresetLow
  all_goals rfl

theorem State.portByte_nresetLow (b : Byte) : (s.portByte b).run.nresetLow = s.run.nresetLow := by
  unfold State.portByte
  split
  case h_5 => split <;> rfl
  case h_6 => rw [State.windowData_eq]
  case h_8 => split <;> rfl
  case h_10 => exact s.registerWritten_nresetLow _ _
  all_goals rfl

theorem State.clockBit_nresetLow (b : Bool) : (s.clockBit b).run.nresetLow = s.run.nresetLow := by
  unfold State.clockBit
  split_ifs
  · rfl
  · rfl
  · exact State.portByte_nresetLow _ _

theorem State.clockBits_nresetLow (bits : List Bool) : (s.clockBits bits).run.nresetLow = s.run.nresetLow := by
  induction bits generalizing s with
  | nil => rfl
  | cons b bits ih => exact (ih _).trans (s.clockBit_nresetLow b)

theorem State.selected_nresetLow : s.selected.run.nresetLow = s.run.nresetLow := by
  unfold State.selected
  split <;> rfl

end

/-! ## A transaction, once begun, runs on -/

theorem State.clockBit_phase {s : State} (begun : s.port.phase ≠ .closed) (b : Bool) :
    (s.clockBit b).port.phase ≠ .closed := by
  unfold State.clockBit
  split_ifs
  · exact begun
  · exact begun
  · exact State.phase_portByte (s := s.setPort { s.port with shift := [] }) begun _

theorem State.clockBits_phase {s : State} (begun : s.port.phase ≠ .closed) (bits : List Bool) :
    (s.clockBits bits).port.phase ≠ .closed := by
  induction bits generalizing s with
  | nil => exact begun
  | cons b bits ih => exact ih (State.clockBit_phase begun b)

theorem State.selected_phase (s : State) : s.selected.port.phase ≠ .closed := by
  unfold State.selected
  split_ifs with closed low
  · exact PortPhase.noConfusion
  · exact PortPhase.noConfusion
  · exact closed

/-- With nCS low already the transaction in progress runs on (log entry 27). -/
theorem State.selected_of_begun {s : State} (begun : s.port.phase ≠ .closed) : s.selected = s := if_neg begun

/-- nCS falls with nRESET high (R174). -/
theorem State.selected_of_closed {s : State} (high : s.run.nresetLow = false) (closed : s.port.phase = .closed) :
    s.selected = s.setPort (Port.fresh .instruction) := by
  rw [State.selected, if_pos closed, high]
  rfl

theorem exec_transactionBegin_high {s : State} (high : s.run.nresetLow = false) (lead : List Byte) (bits : List Bool) :
    exec (.transactionBegin lead bits) s = .next (s.selected.clockBits (lead.flatMap byteBits ++ bits)) :=
  if_neg (by rw [high]; decide)

theorem exec_transactionBegin_low {s : State} (low : s.run.nresetLow = true) (lead : List Byte) (bits : List Bool) :
    exec (.transactionBegin lead bits) s = .next s.selected := if_pos low

/-- The bits of a transaction can come in two pieces (R174). -/
theorem exec_transactionBegin_split (s : State) (first : List Bool) (lead : List Byte) (bits more : List Bool)
    (split : bits = first ++ (lead.flatMap byteBits ++ more)) :
    exec (.transactionBegin [] bits) s = exec (.transactionBegin lead more) (s.after [.transactionBegin [] first]) := by
  subst split
  cases level : s.run.nresetLow with
  | true =>
    have low : s.selected.run.nresetLow = true := s.selected_nresetLow.trans level
    rw [State.after_single (exec_transactionBegin_low level [] first), exec_transactionBegin_low level,
      exec_transactionBegin_low low, State.selected_of_begun s.selected_phase]
  | false =>
    have high : (s.selected.clockBits first).run.nresetLow = false :=
      ((State.clockBits_nresetLow _ _).trans s.selected_nresetLow).trans level
    rw [State.after_single (exec_transactionBegin_high level [] first), exec_transactionBegin_high level,
      List.flatMap_nil, List.nil_append, List.nil_append, exec_transactionBegin_high high,
      State.selected_of_begun (State.clockBits_phase s.selected_phase first), State.clockBits_append]

/-- Fewer than eight bits wait for the others of their byte (R174). -/
theorem State.clockBits_partial {s : State} (begun : s.port.phase ≠ .closed) (heard : s.port.phase ≠ .ignored)
    (bits : List Bool) (few : s.port.shift.length + bits.length < 8) :
    s.clockBits bits = s.setPort { s.port with shift := s.port.shift ++ bits } := by
  induction bits generalizing s with
  | nil => rw [List.append_nil]; rfl
  | cons b bits ih =>
    rw [List.length_cons] at few
    have others := ih (s := s.setPort { s.port with shift := s.port.shift ++ [b] }) begun heard (by
      simp only [State.setPort, List.length_append, List.length_singleton]
      omega)
    rw [State.clockBits_cons, State.clockBit_of_partial begun heard (by omega)]
    refine others.trans ?_
    simp [State.setPort]

/-! ## Whole bytes -/

/-- Whole bytes clocked one after another (R174). -/
def State.clockBytes (s : State) (bytes : List Byte) : State := bytes.foldl State.portByte s

/-- On a byte's boundary the bits of bytes are the bytes, if the transaction is not ignored from one of them on: those
that follow do nothing either way (R174). -/
theorem State.clockBits_bytes {s : State} (begun : s.port.phase ≠ .closed) (boundary : s.port.shift = [])
    (bytes : List Byte) : s.clockBits (bytes.flatMap byteBits) = s.clockBytes bytes := by
  induction bytes generalizing s with
  | nil => rfl
  | cons b bytes ih =>
    have first : s.clockBits (byteBits b) = s.portByte b := by
      by_cases ignored : s.port.phase = .ignored
      · rw [State.clockBits_of_deaf (.inr ignored), State.portByte, ignored]
      · exact State.clockBits_byte begun ignored boundary b
    rw [List.flatMap_cons, State.clockBits_append, first]
    exact ih (State.phase_portByte begun b) (State.shift_portByte boundary b)

/-- The bytes of a transaction that nCS has just begun (R174). -/
theorem exec_transactionBegin_bytes {s : State} (high : s.run.nresetLow = false) (closed : s.port.phase = .closed)
    (bytes : List Byte) :
    exec (.transactionBegin bytes []) s = .next ((s.setPort (Port.fresh .instruction)).clockBytes bytes) := by
  rw [exec_transactionBegin_high high, List.append_nil, State.selected_of_closed high closed,
    State.clockBits_bytes PortPhase.noConfusion rfl]

/-- A byte of a transaction in progress (R174). -/
theorem exec_transactionBegin_byte {s : State} (high : s.run.nresetLow = false) (begun : s.port.phase ≠ .closed)
    (boundary : s.port.shift = []) (b : Byte) : exec (.transactionBegin [b] []) s = .next (s.portByte b) := by
  rw [exec_transactionBegin_high high, List.append_nil, State.selected_of_begun begun,
    State.clockBits_bytes begun boundary]
  rfl

theorem State.portOpen_of {s : State} (high : s.run.nresetLow = false) (heard : s.port.phase ≠ .ignored) :
    s.portOpen = true := by
  rw [State.portOpen, high, Bool.and_eq_true, bne_iff_ne]
  exact ⟨rfl, heard⟩

/-- Data bytes of a window write go one by one where the port stands (R175). -/
theorem State.clockBytes_windowWrite {s : State} {addr : WindowAddr} (high : s.run.nresetLow = false)
    (stands : s.port.phase = .windowWrite addr) (bytes : List Byte) :
    s.clockBytes bytes = s.after (bytes.map (Instr.windowWrite none)) := by
  induction bytes generalizing s addr with
  | nil => rfl
  | cons b bytes ih =>
    have taken : s.portByte b = s.windowData addr b := by rw [State.portByte, stands]
    have opened := State.portOpen_of high (by rw [stands]; exact PortPhase.noConfusion)
    rw [List.map_cons, State.after_cons (exec_windowWrite opened (.inr ⟨rfl, stands⟩) b), State.clockBytes,
      List.foldl_cons, taken]
    exact ih (addr := addr + 1) (by rw [State.windowData_eq]; exact high) rfl

/-- Data bytes of a window read come one by one from where the port stands (R176). -/
theorem State.clockBytes_windowRead {s : State} {addr : WindowAddr} (high : s.run.nresetLow = false)
    (stands : s.port.phase = .windowRead addr) (bytes : List Byte) :
    s.clockBytes bytes = s.after (bytes.map fun _ => Instr.windowRead none) := by
  induction bytes generalizing s addr with
  | nil => rfl
  | cons b bytes ih =>
    have taken : s.portByte b = s.takeData s.port addr := by rw [State.portByte, stands]
    have opened := State.portOpen_of high (by rw [stands]; exact PortPhase.noConfusion)
    rw [List.map_cons, State.after_cons (exec_windowRead_none opened stands), State.clockBytes, List.foldl_cons, taken]
    exact ih (addr := addr + 1) high rfl

theorem State.windowData_setPort (s : State) (p : Port) (addr : WindowAddr) (b : Byte) :
    (s.setPort p).windowData addr b = s.windowData addr b := by
  have byte : (s.setPort p).hostByte addr b = (s.hostByte addr b).setPort p := by
    cases accepted : (decide (s.run.state ≠ .init) && filterAccepts addr.toNat (s.window.read addr.toNat) b) with
    | true =>
      rw [State.hostByte, State.hostByte, if_pos accepted]
      exact if_pos accepted
    | false =>
      rw [State.hostByte, State.hostByte, if_neg (ne_true_of_eq_false accepted)]
      exact if_neg (ne_true_of_eq_false accepted)
  rw [State.windowData, byte]
  rfl

/-- A window write from its instruction byte on (R174, R175). -/
theorem State.clockBytes_write (s : State) (high : s.run.nresetLow = false) (heard : s.port.phase ≠ .ignored)
    (lowByte highByte b : Byte) (more : List Byte) :
    (s.setPort (Port.fresh .instruction)).clockBytes (0x31 :: lowByte :: highByte :: b :: more) =
      s.after (.windowWrite (some (halfOf lowByte highByte)) b :: more.map (Instr.windowWrite none)) := by
  have begun : (s.setPort (Port.fresh .instruction)).clockBytes (0x31 :: lowByte :: highByte :: b :: more) =
      (s.windowData ((halfOf lowByte highByte).setWidth 14) b).clockBytes more := by
    rw [← s.windowData_setPort ((Port.fresh (.windowWrite ((halfOf lowByte highByte).setWidth 14))))]
    rfl
  rw [begun, State.after_cons (exec_windowWrite (State.portOpen_of high heard) (.inl rfl) b)]
  exact State.clockBytes_windowWrite (by rw [State.windowData_eq]; exact high) rfl more

/-- A window read from its instruction byte on (R174, R176). -/
theorem State.clockBytes_read (s : State) (high : s.run.nresetLow = false) (heard : s.port.phase ≠ .ignored)
    (lowByte highByte : Byte) (more : List Byte) :
    (s.setPort (Port.fresh .instruction)).clockBytes (0x32 :: lowByte :: highByte :: more) =
      s.after (.windowRead (some (halfOf lowByte highByte)) :: more.map fun _ => Instr.windowRead none) := by
  have begun : (s.setPort (Port.fresh .instruction)).clockBytes (0x32 :: lowByte :: highByte :: more) =
      (s.beginRead ((halfOf lowByte highByte).setWidth 14)).clockBytes more := rfl
  rw [begun, State.after_cons (exec_windowRead_some (State.portOpen_of high heard) _)]
  exact State.clockBytes_windowRead (s := s.beginRead _) high rfl more

/-! ## Registers -/

theorem halfOf_getLsbD (low high : Byte) (i : Nat) :
    (halfOf low high).getLsbD i = if i < 8 then low.getLsbD i else high.getLsbD (i - 8) := by
  rw [halfOf]
  exact BitVec.getLsbD_append

/-- The enables and the alert level after the low and the high byte of IRQ_ENABLE (R169). -/
theorem State.setEnables_halfOf (s : State) (low high : Byte) :
    (∀ i, i < 7 → (s.setEnables (halfOf low high)).alerts.enables.getLsbD i = low.getLsbD i) ∧
    (∀ i, i < 2 → (s.setEnables (halfOf low high)).alerts.level.getLsbD i = high.getLsbD i) := by
  constructor
  · intro i bit
    simp only [State.setEnables, BitVec.getLsbD_setWidth, halfOf_getLsbD]
    simp [bit, show i < 8 by omega]
  · intro i bit
    simp only [State.setEnables, BitVec.getLsbD_extractLsb', halfOf_getLsbD]
    simp [bit]

/-- A write of 1 clears a flag, a write of 0 leaves it (R167). -/
theorem State.clearFlags_halfOf (s : State) (low high : Byte) {i : Nat} (flag : i < 7) :
    (s.clearFlags (halfOf low high)).alerts.flags.getLsbD i = (s.alerts.flags.getLsbD i && !low.getLsbD i) := by
  simp only [State.clearFlags, BitVec.getLsbD_and, BitVec.getLsbD_not, BitVec.getLsbD_setWidth, halfOf_getLsbD]
  simp [flag, show i < 8 by omega]

/-- The pair of bytes that writes a register, and the next pair's register (R179). -/
theorem State.clockBytes_pair (s : State) (number low high : Byte) (more : List Byte) :
    (s.setPort (Port.fresh (.registerWrite number none))).clockBytes (low :: high :: more) =
      (((s.setPort (Port.fresh (.registerWrite number (some low)))).registerWritten number (halfOf low high)).afterRegister
        number).clockBytes more := rfl

theorem State.registerWritten_irqFlags (s : State) (value : Half) : s.registerWritten 3 value = s.clearFlags value := by
  rw [State.registerWritten, if_neg (by decide), if_pos rfl]

theorem State.registerWritten_irqEnable {s : State} (ready : s.run.state ≠ .init) (value : Half) :
    s.registerWritten 4 value = s.setEnables value := by
  rw [State.registerWritten, if_neg (by decide), if_neg (by decide), if_pos rfl, if_neg ready]

/-- A write of IRQ_FLAGS, from its instruction byte on; the next pair goes to IRQ_ENABLE (R167, R179). -/
theorem State.clockBytes_irqFlags (s : State) (low high : Byte) (more : List Byte) :
    (s.setPort (Port.fresh .instruction)).clockBytes (0x33 :: 0x03 :: low :: high :: more) =
      ((s.clearFlags (halfOf low high)).setPort (Port.fresh (.registerWrite 4 none))).clockBytes more := by
  have begun : (s.setPort (Port.fresh .instruction)).clockBytes (0x33 :: 0x03 :: low :: high :: more) =
    (s.setPort (Port.fresh (.registerWrite 3 none))).clockBytes (low :: high :: more) := rfl
  rw [begun, State.clockBytes_pair, State.registerWritten_irqFlags]
  rfl

/-- The pair for IRQ_ENABLE (R169, R179). -/
theorem State.clockBytes_irqEnable {s : State} (ready : s.run.state ≠ .init) (low high : Byte) :
    (s.setPort (Port.fresh (.registerWrite 4 none))).clockBytes [low, high] =
      (s.setEnables (halfOf low high)).setPort (Port.fresh (.registerWrite 5 none)) := by
  rw [State.clockBytes_pair,
    State.registerWritten_irqEnable (s := s.setPort (Port.fresh (.registerWrite 4 (some low)))) ready]
  rfl

/-- Settles O17, clause by clause. -/
theorem transactionsByteByByte : Obligations.TransactionsByteByByte := by
  refine fun s => ⟨fun low lead bits => ?_, fun high ignored lead bits => ?_, fun high closed bits few => ⟨?_, ?_⟩,
    fun b lead bits => ?_, fun first more => ?_, fun high closed lowByte highByte b more => ⟨?_, ?_⟩,
    fun high closed => ⟨fun ready f0 f1 e0 e1 => ?_, fun f0 f1 e0 => ?_, fun n => ?_⟩,
    fun high boundary n copy b => ⟨fun stands => ?_, fun stands => ?_⟩, _, rfl, rfl, rfl, rfl, rfl, rfl, rfl⟩
  · rw [exec_transactionBegin_low low, State.selected, low]
    rfl
  · rw [exec_transactionBegin_high high, State.selected_of_begun (by rw [ignored]; exact PortPhase.noConfusion),
      State.clockBits_of_deaf (.inr ignored)]
  · rw [exec_transactionBegin_high high, State.selected_of_closed high closed]
    exact congrArg _ (State.clockBits_partial PortPhase.noConfusion PortPhase.noConfusion bits
      ((Nat.zero_add _).trans_lt few))
  · intro b notWrite notRead notRegisterWrite notRegisterRead more
    have named : instructionPhase b = .ignored := by
      simp only [instructionPhase, notWrite, notRead, notRegisterWrite, notRegisterRead, if_false]
    have deaf : (s.setPort (Port.fresh .instruction)).portByte b = s.setPort (Port.fresh .ignored) :=
      congrArg (fun phase => s.setPort (Port.fresh phase)) named
    refine ⟨s.setPort (Port.fresh .ignored), ?_, rfl, rfl, rfl⟩
    rw [exec_transactionBegin_high high, State.selected_of_closed high closed, List.flatMap_cons, List.append_assoc,
      State.clockBits_append, State.clockBits_byte PortPhase.noConfusion PortPhase.noConfusion rfl, deaf,
      State.clockBits_of_deaf (.inr rfl)]
  · refine Eq.trans ?_ (exec_transactionBegin_split s (byteBits b) lead
      (byteBits b ++ (lead.flatMap byteBits ++ bits)) bits rfl)
    show execTransactionBegin _ _ s = execTransactionBegin _ _ s
    rw [execTransactionBegin, execTransactionBegin, List.flatMap_cons, List.append_assoc]
    rfl
  · exact exec_transactionBegin_split s first [] (first ++ more) more rfl
  · rw [exec_transactionBegin_bytes high closed, s.clockBytes_write high (by rw [closed]; exact PortPhase.noConfusion)]
  · rw [exec_transactionBegin_bytes high closed, s.clockBytes_read high (by rw [closed]; exact PortPhase.noConfusion)]
  · refine ⟨_, exec_transactionBegin_bytes high closed _, ?_⟩
    rw [State.clockBytes_irqFlags, State.clockBytes_irqEnable (s := s.clearFlags (halfOf f0 f1)) ready]
    exact ⟨rfl, fun i flag => s.clearFlags_halfOf f0 f1 flag, (State.setEnables_halfOf _ e0 e1).1,
      (State.setEnables_halfOf _ e0 e1).2⟩
  · refine ⟨_, exec_transactionBegin_bytes high closed _, ?_⟩
    rw [State.clockBytes_irqFlags]
    exact ⟨rfl, rfl⟩
  · exact exec_transactionBegin_bytes high closed [0x34, n]
  · rw [exec_transactionBegin_byte high (by rw [stands]; exact PortPhase.noConfusion) boundary, State.portByte, stands]
    rfl
  · rw [exec_transactionBegin_byte high (by rw [stands]; exact PortPhase.noConfusion) boundary, State.portByte, stands]
    rfl

end Sys2Proof.Machine
end

section
/-! SUPPORT. Answers one after another: what each slot shows, which bytes stand, what becomes of the taken set (R119). -/

namespace Sys2Proof.Machine

open Sys2Proof

/-! ## The bytes of a slot -/

/-- No byte is written for two slots. -/
theorem ownedByPart_apart {j k : SlotNo} {x : Nat} (apart : j ≠ k) (owned : ownedByPart j x) : ¬ ownedByPart k x := by
  have apart : j.val ≠ k.val := fun same => apart (Fin.ext same)
  unfold ownedByPart slotBase at *
  omega

theorem ownedByPart_board {k : SlotNo} {x : Nat} (owned : ownedByPart k x) : 0x40 ≤ x ∧ x < 0x340 := by
  have := k.isLt
  unfold ownedByPart slotBase at owned
  omega

/-- A slot shows its answer as long as its bytes stand. -/
theorem State.showsAnswer_of_stands {s t : State} {k : SlotNo} {result detail : Byte} {stamp : Word} {payload : List Byte}
    (stands : ∀ x, ownedByPart k x → t.window.read x = s.window.read x)
    (shows : s.showsAnswer k result detail stamp payload) :
    t.showsAnswer k result detail stamp payload := by
  have byte {x : Nat} (inside : slotBase k + 16 ≤ x ∧ x < slotBase k + 48) : t.window.read x = s.window.read x :=
    stands x (.inr inside)
  obtain ⟨owner, code, more, zero, last, stamped, bytes, rest⟩ := shows
  refine ⟨(stands _ (.inl rfl)).trans owner, (byte (by omega)).trans code, (byte (by omega)).trans more,
    (byte (by omega)).trans zero, (byte (by omega)).trans last,
    (Memory.word_congr fun i less => byte (by omega)).trans stamped, fun i less => (byte (by omega)).trans (bytes i less),
    fun i less => (byte (by omega)).trans (rest i less)⟩

/-- The pages' own bytes are none of a slot's. -/
theorem State.showsAnswer_of_keepsBoard {s t : State} {k : SlotNo} {result detail : Byte} {stamp : Word}
    {payload : List Byte} (keeps : s.window.keepsBoard t.window) (law : s.windowLaw)
    (shows : s.showsAnswer k result detail stamp payload) : t.showsAnswer k result detail stamp payload :=
  State.showsAnswer_of_stands (fun x owned => (keeps law).2 x (ownedByPart_board owned).2) shows

/-! ## The answers -/

section
variable {s : State} (ks : List SlotNo) (a : Answer)

theorem State.answerAll_cons (k : SlotNo) : s.answerAll (k :: ks) a = (s.answer k a).answerAll ks a := rfl

theorem State.answerAll_append (more : List SlotNo) : s.answerAll (ks ++ more) a = (s.answerAll ks a).answerAll more a :=
  List.foldl_append

theorem State.answerAll_run : (s.answerAll ks a).run = s.run := (State.answerAll_works s ks a).run

/-- What answers do not touch. -/
theorem State.answerAll_same : s.answerAll ks a = { s with
    chains := (s.answerAll ks a).chains, window := (s.answerAll ks a).window
    requests := { s.requests with taken := (s.answerAll ks a).requests.taken }
    alerts := { s.alerts with flags := (s.answerAll ks a).alerts.flags } } := by
  obtain ⟨_, _, _, _, answered⟩ := s.answerAll_changes ks a
  rw [answered]

theorem State.windowLaw_answerAll (law : s.windowLaw) : (s.answerAll ks a).windowLaw :=
  State.windowLaw_of_works (State.answerAll_works s ks a) law

variable {ks a}

/-- Bytes of no answered slot stand (R119). -/
theorem State.windowRead_answerAll (law : s.windowLaw) {x : Nat} (outside : ∀ k ∈ ks, ¬ ownedByPart k x) :
    (s.answerAll ks a).window.read x = s.window.read x := by
  induction ks generalizing s with
  | nil => rfl
  | cons k ks ih =>
    have others := ih (State.windowLaw_answer law k a) fun j m => outside j (.tail _ m)
    exact others.trans (State.windowRead_answer law a (outside k (.head _)))

/-- A slot that is answered, or shows that answer already, shows it in the end. -/
theorem State.answerAll_shows_or {k : SlotNo} (law : s.windowLaw)
    (answered : k ∈ ks ∨ s.showsAnswer k a.result.code a.detail s.run.stamp a.payload) :
    (s.answerAll ks a).showsAnswer k a.result.code a.detail s.run.stamp a.payload := by
  induction ks generalizing s with
  | nil => exact answered.resolve_left List.not_mem_nil
  | cons j ks ih =>
    have run : (s.answer j a).run = s.run := State.answerAll_run [j] a
    have others := ih (s := s.answer j a) (State.windowLaw_answer law j a)
    rw [run] at others
    refine others ?_
    by_cases same : k = j
    · exact .inr (same ▸ State.answer_shows law j a)
    · refine answered.imp (fun m => (List.mem_cons.mp m).resolve_left same) (State.showsAnswer_of_stands fun x owned => ?_)
      exact State.windowRead_answer law a (ownedByPart_apart same owned)

/-- Every slot answered shows it (R119). -/
theorem State.answerAll_shows {k : SlotNo} (law : s.windowLaw) (m : k ∈ ks) :
    (s.answerAll ks a).showsAnswer k a.result.code a.detail s.run.stamp a.payload := State.answerAll_shows_or law (.inl m)

/-- The taken set loses the slots answered (R119). -/
theorem State.taken_answerAll :
    (s.answerAll ks a).requests.taken = s.requests.taken.filter fun h => !ks.contains h.slot := by
  induction ks generalizing s with
  | nil => exact (List.filter_eq_self.mpr fun _ _ => rfl).symm
  | cons k ks ih =>
    rw [State.answerAll_cons, ih, State.answer_taken, State.takenBut, List.filter_filter]
    refine List.filter_congr fun h _ => ?_
    rw [List.contains_cons, Bool.not_or, Bool.and_comm]
    rfl

/-- A chain loses at most entries of its list. -/
theorem State.chain_answerAll (d : ChainNo) :
    (s.answerAll ks a).chain d = { s.chain d with waiting := ((s.answerAll ks a).chain d).waiting } := by
  induction ks generalizing s with
  | nil => rfl
  | cons k ks ih =>
    rw [State.answerAll_cons, ih, State.chain_answer]

/-- Answers raise ANSWER, if there are any, and no other flag (R170). -/
theorem State.flagged_answerAll (f : Flag) :
    (s.answerAll ks a).flagged f = (s.flagged f || (decide (f = .answer) && !ks.isEmpty)) := by
  induction ks generalizing s with
  | nil => rw [List.isEmpty_nil, Bool.not_true, Bool.and_false, Bool.or_false]; rfl
  | cons k ks ih =>
    have first : (s.answer k a).flagged f = (s.flagged f || decide (f = .answer)) := by
      obtain ⟨_, answered⟩ := s.unlist_changes k
      rw [State.answer, State.flagged_raise, answered]
      rfl
    rw [State.answerAll_cons, ih, first]
    cases decide (f = .answer) <;> simp

end

/-! ## The taken set -/

theorem State.heldOf_isSome_of_mem {s : State} {h : Held} (m : h ∈ s.requests.taken) :
    (s.heldOf h.slot).isSome = true := by
  rw [State.heldOf, Option.isSome_map, List.find?_isSome]
  exact ⟨h, m, beq_self_eq_true _⟩

/-- Every taken slot is in the ascending list. -/
theorem State.mem_takenAscending_of_mem {s : State} {h : Held} (m : h ∈ s.requests.taken) : h.slot ∈ s.takenAscending :=
  State.mem_takenAscending.mpr (State.heldOf_isSome_of_mem m)

end Sys2Proof.Machine
end

section
/-! SUPPORT. STOP in RUNNING: the entry into DRAINING and the drain-end test that follows it (R158, R159). -/

namespace Sys2Proof.Machine

open Sys2Proof

theorem ChainRec.drained_of_excited {r : ChainRec} (h : r.state = .settling ∨ r.state = .warm) :
    r.drained = r.chilled .cold := if_pos (by simpa using h)

theorem ChainRec.drained_of_calm {r : ChainRec} (notSettling : r.state ≠ .settling) (notWarm : r.state ≠ .warm) :
    r.drained = r := if_neg (by simp [notSettling, notWarm])

/-- What the entry into DRAINING keeps of a chain besides its place in the warm set (R158). -/
theorem ChainRec.drained_keeps (r : ChainRec) : r.drained.defn = r.defn ∧ r.drained.periodCounter = r.periodCounter ∧
    r.drained.late = r.late ∧ r.drained.reads = r.reads ∧ r.drained.faultRun = r.faultRun := by
  unfold ChainRec.drained
  split <;> exact ⟨rfl, rfl, rfl, rfl, rfl⟩

/-- The slots that STOP answers (R123, R158). -/
def State.stopped (s : State) : List SlotNo := s.takenAscending.filter fun k => !s.belongsToRead k

section
variable {u : State}

/-- The entry into DRAINING, field by field (R158). -/
theorem State.enterDraining_same : u.enterDraining = { u with
    run := { u.run with state := .draining }, frame := FrameWork.empty, lru := [], due := []
    chains := u.enterDraining.chains, window := u.enterDraining.window
    requests := { u.requests with taken := u.enterDraining.requests.taken }
    alerts := { u.alerts with flags := u.enterDraining.alerts.flags } } := by
  rw [State.enterDraining_eq]
  exact State.answerAll_same (s := u.halt) _ _

theorem State.chain_enterDraining (c : ChainNo) :
    u.enterDraining.chain c = { (u.chain c).drained with waiting := (u.enterDraining.chain c).waiting } := by
  rw [← State.chain_halt, State.enterDraining_eq]
  exact State.chain_answerAll c

theorem State.windowLaw_enterDraining (law : u.windowLaw) : u.enterDraining.windowLaw :=
  State.windowLaw_answerAll (s := u.halt) _ _ law

theorem State.windowRead_enterDraining (law : u.windowLaw) {x : Nat} (outside : 0x340 ≤ x) :
    u.enterDraining.window.read x = u.window.read x :=
  State.windowRead_answerAll (s := u.halt) law fun _ _ owned => absurd (ownedByPart_board owned).2 (by omega)

theorem State.pageSeq_enterDraining (law : u.windowLaw) (p : PageNo) : u.enterDraining.pageSeq p = u.pageSeq p :=
  Memory.word_congr fun _ _ => State.windowRead_enterDraining law (by have := pageBase_le p; omega)

/-- What is left of the taken set belongs to the read in progress (R123). -/
theorem State.taken_enterDraining :
    u.enterDraining.requests.taken = u.requests.taken.filter fun h => u.belongsToRead h.slot := by
  refine (State.taken_answerAll (s := u.halt)).trans (List.filter_congr fun h m => ?_)
  have taken := State.mem_takenAscending_of_mem (s := u) m
  cases his : u.belongsToRead h.slot <;> simp [his, taken]

/-- A request that does not belong to the read in progress is answered STOPPED (R123). -/
theorem State.shows_enterDraining (law : u.windowLaw) {h : Held} (m : h ∈ u.requests.taken)
    (gone : h ∉ u.enterDraining.requests.taken) :
    u.enterDraining.showsAnswer h.slot 0x08 0 u.run.stamp [] ∧ u.enterDraining.flagged .answer = true := by
  have notHis : u.belongsToRead h.slot = false := by
    rw [State.taken_enterDraining, List.mem_filter, not_and, Bool.not_eq_true] at gone
    exact gone m
  have answered : h.slot ∈ u.takenAscending.filter fun k => !u.belongsToRead k :=
    List.mem_filter.mpr ⟨State.mem_takenAscending_of_mem m, by rw [notHis]; rfl⟩
  refine ⟨State.answerAll_shows (s := u.halt) law answered, (State.flagged_answerAll (s := u.halt) _).trans ?_⟩
  rw [List.isEmpty_eq_false_iff.mpr (List.ne_nil_of_mem answered)]
  exact Bool.or_true _

theorem State.flagged_enterDraining_stopped : u.enterDraining.flagged .stopped = u.flagged .stopped :=
  (State.flagged_answerAll (s := u.halt) _).trans (Bool.or_false _)

/-- Without frame work the drain-end test touches the run, the window, the pages and the flags alone (R159). -/
theorem State.drainTest_same (frame : u.frame = FrameWork.empty) : u.drainTest = { u with
    run := u.drainTest.run, window := u.drainTest.window, pages := u.drainTest.pages
    alerts := { u.alerts with flags := u.drainTest.alerts.flags } } := by
  by_cases drained : u.Drained
  · cases held : u.pages.current with
    | none => rw [State.drainTest_unheld drained held, frame]
    | some p =>
      obtain ⟨_, w, -, -, ended⟩ := State.drainTest_held drained held
      rw [ended, frame]
  · rw [State.drainTest_of_not_drained drained]

/-- The slots' bytes and the header's are not the drain's end to write. -/
theorem State.drainTest_keepsBoard : u.window.keepsBoard u.drainTest.window := by
  obtain ⟨_, _, _, _, _, _, _, ended, keeps, -⟩ := u.drainTest_changes
  rw [ended]
  exact keeps

/-- The drain's end lowers no flag. -/
theorem State.drainTest_flagged {f : Flag} (flag : u.flagged f = true) : u.drainTest.flagged f = true := by
  have kept {m : BitVec 7} {t : State} (flags : t.alerts.flags = u.alerts.flags ||| m) : t.flagged f = true := by
    rw [State.flagged_iff] at flag ⊢
    rw [flags, BitVec.getLsbD_or, flag, Bool.true_or]
  by_cases drained : u.Drained
  · cases held : u.pages.current with
    | none => exact kept (by rw [State.drainTest_unheld drained held])
    | some p =>
      obtain ⟨_, w, -, -, ended⟩ := State.drainTest_held drained held
      exact kept (by rw [ended])
  · rwa [State.drainTest_of_not_drained drained]

/-- The end of a drain with no frame work outstanding (R107, R159). -/
theorem State.drainTest_ends (drained : u.Drained) (frame : u.frame = FrameWork.empty) (law : u.windowLaw) :
    u.drainTest.run = { u.run with state := .idle, frameTimer := none } ∧ u.drainTest.flagged .stopped = true ∧
    u.drainTest.pages.current = none ∧
    ∀ p, u.pages.current = some p → u.drainTest.flagged .sealed = true ∧ u.Sealed .stop u.drainTest.window p ∧
      u.drainTest.pages.sealed = u.pages.sealed + 1 ∧ u.drainTest.pages.lastSealed = u.pageSeq p := by
  cases held : u.pages.current with
  | none =>
    have ended := State.drainTest_unheld drained held
    refine ⟨by rw [ended], State.flagged_of_or (by rw [ended]) rfl, ?_, fun p no => nomatch no⟩
    rw [ended]
    exact held
  | some p =>
    obtain ⟨cause, w, code, sealed, ended⟩ := State.drainTest_held drained held
    have stop : cause = .stop := by
      rw [frame, if_neg fun outstanding => nomatch outstanding.1] at code
      cases cause with
      | stop => rfl
      | _ => exact absurd code (by decide)
    subst stop
    refine ⟨by rw [ended], State.flagged_of_or (by rw [ended]) rfl, by rw [ended], fun q same => ?_⟩
    cases same
    refine ⟨State.flagged_of_or (by rw [ended]) rfl, ?_, by rw [ended], by rw [ended]⟩
    rw [ended]
    exact sealed law

end

theorem State.stopCommand_running {s : State} (running : s.run.state = .running) :
    s.stopCommand = s.finishFrame.enterDraining.drainTest := by
  rw [State.stopCommand, running]

/-- Settles O7: the entry into DRAINING, then the drain-end test on a state without frame work. -/
theorem stopEntersDraining : Obligations.StopEntersDraining := by
  rintro s u high opened running rfl law
  obtain ⟨u, same⟩ : ∃ u, u = s.finishFrame := ⟨_, rfl⟩
  have ran : exec (.stop high) s = .next (u.enterDraining.drainTest.afterRegister 2) := by
    rw [exec_stop_of_open opened, State.stopCommand_running running, same]
  rw [← same] at law ⊢
  refine ⟨_, ran, ?_⟩
  have entered := u.enterDraining_same
  have frame : u.enterDraining.frame = FrameWork.empty := by rw [entered]
  have tested := State.drainTest_same frame
  have law' := State.windowLaw_enterDraining law
  have chains (c : ChainNo) : u.enterDraining.drainTest.chain c =
      { (u.chain c).drained with waiting := (u.enterDraining.chain c).waiting } := by
    rw [← State.chain_enterDraining, State.chain, tested]
    rfl
  have taken : u.enterDraining.drainTest.requests.taken =
      u.requests.taken.filter fun h => u.belongsToRead h.slot := by
    rw [tested]
    exact State.taken_enterDraining
  have idle (reading : u.read = none) (h : Held) : u.belongsToRead h.slot = false := by
    rw [State.belongsToRead, reading]
  refine ⟨by rw [tested, entered]; rfl, by rw [tested, entered]; rfl, by rw [tested, entered]; rfl,
    by rw [tested, frame]; rfl, fun c excited => ?_, fun c notSettling notWarm => ?_, fun c => ?_,
    by rw [tested, entered]; rfl, by rw [tested, entered]; rfl, by rw [tested, entered]; rfl,
    by rw [tested, entered]; rfl, fun h m gone => ?_, fun rd reading => ?_, fun reading => ⟨?_, fun waits => ?_,
      fun empty => ?_⟩⟩
  · change (u.enterDraining.drainTest.chain c).state = _ ∧ (u.enterDraining.drainTest.chain c).settle = _ ∧
      (u.enterDraining.drainTest.chain c).idle = _
    rw [chains, ChainRec.drained_of_excited excited]
    exact ⟨rfl, rfl, rfl⟩
  · change (u.enterDraining.drainTest.chain c).state = _ ∧ (u.enterDraining.drainTest.chain c).idle = _
    rw [chains, ChainRec.drained_of_calm notSettling notWarm]
    exact ⟨rfl, rfl⟩
  · have kept := (u.chain c).drained_keeps
    change (u.enterDraining.drainTest.chain c).defn = _ ∧ (u.enterDraining.drainTest.chain c).periodCounter = _ ∧
      (u.enterDraining.drainTest.chain c).late = _ ∧ (u.enterDraining.drainTest.chain c).reads = _ ∧
      (u.enterDraining.drainTest.chain c).faultRun = _
    rw [chains]
    exact kept
  · have gone : h ∉ u.enterDraining.requests.taken := by
      rw [State.taken_enterDraining, ← taken]
      exact gone
    obtain ⟨shows, flag⟩ := State.shows_enterDraining law m gone
    refine ⟨State.showsAnswer_of_keepsBoard (t := u.enterDraining.drainTest.afterRegister 2)
      State.drainTest_keepsBoard law' shows, State.drainTest_flagged flag⟩
  · have goesOn : u.enterDraining.drainTest = u.enterDraining :=
      State.drainTest_of_not_drained (State.not_drained (.inr (by rw [entered, reading]; rfl)))
    refine ⟨by rw [goesOn, entered]; rfl, by rw [goesOn, entered]; rfl, taken.trans (List.filter_congr fun h _ => ?_)⟩
    rw [State.belongsToRead, reading]
  · exact taken.trans (List.filter_eq_nil_iff.mpr fun h _ => by rw [idle reading]; decide)
  · have goesOn : u.enterDraining.drainTest = u.enterDraining :=
      State.drainTest_of_not_drained fun drained => waits (by have := drained.2.2; rwa [entered] at this)
    refine ⟨by rw [goesOn, entered]; rfl, by rw [goesOn, entered]; rfl, ?_⟩
    rw [goesOn]
    exact State.flagged_enterDraining_stopped
  · have drained : u.enterDraining.Drained := by
      rw [entered]
      exact ⟨rfl, reading, empty⟩
    have pages : u.enterDraining.pages = u.pages := by rw [entered]
    obtain ⟨run, stopped, unheld, held⟩ := State.drainTest_ends drained frame law'
    refine ⟨run.trans (by rw [entered]), stopped, unheld, fun p current => ?_⟩
    obtain ⟨flag, sealed, count, last⟩ := held p (pages ▸ current)
    refine ⟨flag, sealed.owner, sealed.cause, sealed.sealedAt.trans (by rw [entered]), ?_, ?_⟩
    · exact count.trans (by rw [pages])
    · exact last.trans (State.pageSeq_enterDraining law p)

end Sys2Proof.Machine
end

section
/-! SUPPORT. The read given up, a second STOP, SOFT_RESET (R16, R48, R160, R162). -/

namespace Sys2Proof.Machine

open Sys2Proof

/-! ## The read given up -/

/-- The slots on the list of the read in progress (R48). -/
def State.readWaits (s : State) : List SlotNo := s.read.elim [] fun rd => (s.chain rd.chain).waiting.slots

/-- The state once the read in progress is dropped and before its requests are answered (R16). -/
def State.dropRead (s : State) : State :=
  match s.read with
  | none => s
  | some rd => { s.chill rd.chain .cold with read := none }

section
variable {u : State} (a : Answer)

theorem State.abandonRead_eq : u.abandonRead a = u.dropRead.answerAll u.readWaits a := by
  unfold State.abandonRead State.dropRead State.readWaits
  cases u.read with
  | none => rfl
  | some rd => rfl

/-- What giving up the read does not touch (R16). -/
theorem State.dropRead_same : u.dropRead = { u with
    chains := u.dropRead.chains, lru := u.dropRead.lru, read := none } := by
  unfold State.dropRead
  split
  · rename_i idle
    rw [← idle]
  · rfl

theorem State.abandonRead_same : u.abandonRead a = { u with
    chains := (u.abandonRead a).chains, lru := (u.abandonRead a).lru, read := none, window := (u.abandonRead a).window
    requests := { u.requests with taken := (u.abandonRead a).requests.taken }
    alerts := { u.alerts with flags := (u.abandonRead a).alerts.flags } } := by
  rw [State.abandonRead_eq]
  have answered := State.answerAll_same (s := u.dropRead) u.readWaits a
  have dropped := u.dropRead_same
  rw [answered]
  generalize u.dropRead.answerAll u.readWaits a = v
  rw [dropped]

/-- The chain of the read that is given up is COLD, its counters kept (R16). -/
theorem State.chain_abandonRead {rd : ReadInProgress} (reading : u.read = some rd) :
    (u.abandonRead a).chain rd.chain =
      { (u.chain rd.chain).chilled .cold with waiting := ((u.abandonRead a).chain rd.chain).waiting } := by
  have dropped : u.dropRead.chain rd.chain = (u.chain rd.chain).chilled .cold := by
    unfold State.dropRead
    rw [reading]
    exact (State.chain_chill ..).trans (if_pos rfl)
  rw [State.abandonRead_eq, ← dropped]
  exact State.chain_answerAll _

variable {a}

theorem State.windowLaw_abandonRead (law : u.windowLaw) : (u.abandonRead a).windowLaw :=
  State.windowLaw_of_works (u.abandonRead_works a) law

/-- The requests on the abandoned chain's list are answered (R48). -/
theorem State.shows_abandonRead (law : u.windowLaw) {k : SlotNo} (m : k ∈ u.readWaits) :
    (u.abandonRead a).showsAnswer k a.result.code a.detail u.run.stamp a.payload := by
  have dropped := u.dropRead_same
  have law' : u.dropRead.windowLaw := by
    rw [dropped]
    exact law
  have run : u.dropRead.run = u.run := by rw [dropped]
  rw [State.abandonRead_eq, ← run]
  exact State.answerAll_shows law' m

end

/-! ## The end of a drain -/

section
variable {w : State} (empty : w.records.queue = [])
include empty

/-- What a drain's end touches when no record waits (R159, R160). -/
theorem State.drainEnd_same : w.drainEnd = { w with
    run := { w.run with state := .idle, frameTimer := none }, frame := FrameWork.empty, window := w.drainEnd.window
    pages := w.drainEnd.pages, alerts := { w.alerts with flags := w.drainEnd.alerts.flags } } := by
  cases held : w.pages.current with
  | none => rw [State.drainEnd_unheld empty held]
  | some p =>
    have ended := State.drainEnd_held empty held
    generalize (w.sealPage .stop).window = m at ended
    rw [ended]

/-- Its flag, and the page that was held (R107, R160). -/
theorem State.drainEnd_ends (law : w.windowLaw) :
    w.drainEnd.flagged .stopped = true ∧ w.drainEnd.pages.current = none ∧
    ∀ p, w.pages.current = some p →
      w.drainEnd.pages.sealed = w.pages.sealed + 1 ∧ w.drainEnd.pageOwner p = pageSealed := by
  cases held : w.pages.current with
  | none =>
    have ended := State.drainEnd_unheld empty held
    refine ⟨State.flagged_of_or (by rw [ended]) rfl, ?_, fun p no => nomatch no⟩
    rw [ended]
    exact held
  | some p =>
    have sealed := State.sealPage_sealed law .stop held
    have ended := State.drainEnd_held empty held
    generalize (w.sealPage .stop).window = m at ended sealed
    refine ⟨State.flagged_of_or (by rw [ended]) rfl, by rw [ended], fun q same => ?_⟩
    cases same
    rw [ended]
    exact ⟨rfl, sealed.owner⟩

end

theorem State.drainEnd_keepsBoard (w : State) : w.window.keepsBoard w.drainEnd.window := by
  obtain ⟨_, m, _, _, closed, keeps, -⟩ := w.closePage_path .stop
  rw [State.drainEnd, closed]
  exact keeps

/-! ## A second STOP -/

theorem State.stopCommand_draining {s : State} (draining : s.run.state = .draining)
    (goesOn : s.finishFrame.run.state = .draining) : s.stopCommand = s.finishFrame.secondStop := by
  rw [State.stopCommand, draining]
  exact if_pos goesOn

/-- Settles O8: the read given up, the queue discarded, the drain's end. -/
theorem secondStopGivesUpTheDrain : Obligations.SecondStopGivesUpTheDrain := by
  rintro s u high opened draining rfl goesOn law
  obtain ⟨u, same⟩ : ∃ u, u = s.finishFrame := ⟨_, rfl⟩
  obtain ⟨v, abandoned⟩ : ∃ v, v = u.abandonRead (Answer.plain .stopped) := ⟨_, rfl⟩
  have ran : exec (.stop high) s = .next (v.discardQueue.drainEnd.afterRegister 2) := by
    rw [exec_stop_of_open opened, State.stopCommand_draining draining goesOn, ← same, State.secondStop, abandoned]
  rw [← same] at law ⊢
  refine ⟨_, ran, ?_⟩
  have given : v = { u with
      chains := v.chains, lru := v.lru, read := none, window := v.window
      requests := { u.requests with taken := v.requests.taken }, alerts := { u.alerts with flags := v.alerts.flags } } := by
    rw [abandoned]
    exact State.abandonRead_same _
  have law' : v.discardQueue.windowLaw := by
    show v.windowLaw
    rw [abandoned]
    exact State.windowLaw_abandonRead law
  have empty : v.discardQueue.records.queue = [] := rfl
  have ended := State.drainEnd_same empty
  have records : v.discardQueue.drainEnd.records = { u.records with
      queue := [], overrun := 0, lost := u.records.lost + BitVec.ofNat 32 u.records.queue.length } := by
    rw [ended]
    have kept : v.records = u.records := by rw [given]
    rw [← kept]
    rfl
  obtain ⟨stopped, unheld, page⟩ := State.drainEnd_ends empty law'
  have pages : v.discardQueue.pages = u.pages := by
    show v.pages = _
    rw [given]
  refine ⟨records, fun balanced => ?_, ?_, stopped, unheld, fun p held => ?_, ?_, ?_, ?_, fun rd reading => ?_⟩
  · refine State.balance_drainEnd (State.balance_discardQueue ?_)
    rw [abandoned]
    exact State.balance_works (u.abandonRead_works _) balanced
  · have kept : v.run = u.run := by rw [given]
    rw [← kept]
    show v.discardQueue.drainEnd.run = _
    rw [ended]
    rfl
  · rw [← pages] at held ⊢
    exact page p held
  · show v.discardQueue.drainEnd.read = _
    rw [ended]
    show v.read = _
    rw [given]
  · show v.discardQueue.drainEnd.images = _
    rw [ended]
    show v.images = _
    rw [given]
  · show v.discardQueue.drainEnd.groups = _
    rw [ended]
    show v.groups = _
    rw [given]
  · have chain : (v.discardQueue.drainEnd.afterRegister 2).chain rd.chain =
        { (u.chain rd.chain).chilled .cold with waiting := (v.chain rd.chain).waiting } := by
      rw [abandoned, ← State.chain_abandonRead _ reading, ← abandoned]
      show v.discardQueue.drainEnd.chain rd.chain = _
      rw [ended]
      rfl
    rw [chain]
    refine ⟨rfl, rfl, rfl, rfl, rfl, fun k m => ?_⟩
    have waits : k ∈ u.readWaits := by
      rw [State.readWaits, reading]
      exact m
    have shows : v.discardQueue.showsAnswer k 0x08 0 u.run.stamp [] := by
      show v.showsAnswer k 0x08 0 u.run.stamp []
      rw [abandoned]
      exact State.shows_abandonRead law waits
    exact State.showsAnswer_of_keepsBoard (t := v.discardQueue.drainEnd.afterRegister 2) (State.drainEnd_keepsBoard _) law'
      shows

end Sys2Proof.Machine
end

section
/-! SUPPORT. SOFT_RESET: the answers, the page given up, what is cleared (R109, R125, R162). -/

namespace Sys2Proof.Machine

open Sys2Proof

/-! ## The RESET answers -/

/-- The state of a soft reset with every taken request answered (R125). -/
def State.resetAnswered (u : State) : State :=
  (u.abandonRead (Answer.plain .reset)).answerAll (u.abandonRead (Answer.plain .reset)).takenAscending (Answer.plain .reset)

theorem State.softReset_eq (u : State) : u.softReset = u.resetAnswered.abandonPage.clearAll := rfl

section
variable {u : State}

theorem State.resetAnswered_same : u.resetAnswered = { u with
    chains := u.resetAnswered.chains, lru := u.resetAnswered.lru, read := none, window := u.resetAnswered.window
    requests := { u.requests with taken := u.resetAnswered.requests.taken }
    alerts := { u.alerts with flags := u.resetAnswered.alerts.flags } } := by
  have abandoned := u.abandonRead_same (Answer.plain .reset)
  have answered := State.answerAll_same (s := u.abandonRead (Answer.plain .reset))
    (u.abandonRead (Answer.plain .reset)).takenAscending (Answer.plain .reset)
  unfold State.resetAnswered
  rw [answered]
  generalize State.answerAll _ _ _ = v
  rw [abandoned]

variable (law : u.windowLaw)
include law

theorem State.windowLaw_resetAnswered : u.resetAnswered.windowLaw :=
  State.windowLaw_answerAll _ _ (State.windowLaw_abandonRead law)

/-- Every request in the taken set is answered RESET (R125). -/
theorem State.resetAnswered_shows {h : Held} (m : h ∈ u.requests.taken) :
    u.resetAnswered.showsAnswer h.slot 0x09 0 u.run.stamp [] := by
  have run : (u.abandonRead (Answer.plain .reset)).run = u.run := (u.abandonRead_works _).run
  rw [← run]
  refine State.answerAll_shows_or (a := Answer.plain .reset) (State.windowLaw_abandonRead law) ?_
  by_cases waits : h.slot ∈ u.readWaits
  · exact .inr (run ▸ State.shows_abandonRead law waits)
  · refine .inl (State.mem_takenAscending_of_mem ?_)
    have dropped : u.dropRead.requests = u.requests := by rw [u.dropRead_same]
    rw [State.abandonRead_eq, State.mem_taken_answerAll, dropped]
    exact ⟨m, waits⟩

/-- Bytes of no taken slot stand. -/
theorem State.windowRead_resetAnswered (taken : u.Taken) {x : Nat}
    (outside : ∀ h ∈ u.requests.taken, ¬ ownedByPart h.slot x) : u.resetAnswered.window.read x = u.window.read x := by
  have dropped : u.dropRead.requests = u.requests ∧ u.dropRead.window = u.window := by
    rw [u.dropRead_same]
    exact ⟨rfl, rfl⟩
  have law' : u.dropRead.windowLaw := by
    rw [State.windowLaw, dropped.2]
    exact law
  obtain ⟨drops, window⟩ := dropped
  have first : (u.abandonRead (Answer.plain .reset)).window.read x = u.window.read x := by
    rw [State.abandonRead_eq, ← window]
    refine State.windowRead_answerAll law' fun k m => ?_
    unfold State.readWaits at m
    cases reading : u.read with
    | none => rw [reading] at m; cases m
    | some rd =>
      rw [reading] at m
      obtain ⟨h, held, rfl, -⟩ := taken.listTaken rd.chain k m
      exact outside h held
  have others : ∀ k ∈ (u.abandonRead (Answer.plain .reset)).takenAscending, ¬ ownedByPart k x := by
    intro k m
    rw [State.mem_takenAscending] at m
    obtain ⟨r, held⟩ := Option.isSome_iff_exists.mp m
    have still := State.mem_of_heldOf held
    rw [State.abandonRead_eq, State.mem_taken_answerAll, drops] at still
    exact (outside ⟨k, r⟩ still.1 :)
  have law'' : (u.abandonRead (Answer.plain .reset)).windowLaw := State.windowLaw_abandonRead law
  unfold State.resetAnswered
  generalize u.abandonRead (Answer.plain .reset) = v at *
  rw [State.windowRead_answerAll law'' others, first]

end

/-! ## The page given up -/

section
variable {v : State} (law : v.windowLaw)
include law

omit law in
theorem State.abandonPage_keepsBoard : v.window.keepsBoard v.abandonPage.window := by
  unfold State.abandonPage
  split
  · exact Memory.keepsBoard_refl _
  · exact Memory.keepsBoard_writeBytes _ _ (entryBase_le _).1

/-- The entry of the page held is FREE, its count and sequence 0 (R109). -/
theorem State.abandonPage_entry {p : PageNo} (held : v.pages.current = some p) :
    v.abandonPage.pageOwner p = pageFree ∧ v.abandonPage.window.read (entryBase p + 1) = 0 ∧
      v.abandonPage.window.half (entryBase p + 2) = 0 := by
  have byte {i : Nat} (inside : i < 4) :
      v.abandonPage.window.read (entryBase p + i) = [pageFree, 0, 0, 0].getD i 0 := by
    unfold State.abandonPage
    rw [held]
    refine (Memory.read_writeBytes law _ _ _).trans ((if_pos ⟨by omega, by simpa using inside⟩).trans ?_)
    rw [Nat.add_sub_cancel_left]
  refine ⟨byte (i := 0) (by decide), byte (i := 1) (by decide), Memory.half_eq fun j less => ?_⟩
  rw [Nat.add_assoc, byte (by omega)]
  interval_cases j <;> rfl

theorem State.windowRead_abandonPage {x : Nat}
    (outside : ∀ p, v.pages.current = some p → ¬ (entryBase p ≤ x ∧ x < entryBase p + 4)) :
    v.abandonPage.window.read x = v.window.read x := by
  unfold State.abandonPage
  split
  · rfl
  · rename_i p held
    exact (Memory.read_writeBytes law _ _ _).trans (if_neg (outside p held))

end

/-! ## What is cleared -/

theorem ChainRec.mirror_reset : ChainRec.reset.mirror = List.replicate 8 0 := by decide
theorem GroupRec.mirror_reset : GroupRec.reset.mirror = List.replicate 8 0 := by decide

section
variable (v : State)

theorem State.chain_clearAll (c : ChainNo) : v.clearAll.chain c = ChainRec.reset := State.chain_of_reset rfl c
theorem State.image_clearAll (c : ChainNo) : v.clearAll.image c = Image.reset := State.image_of_reset rfl c
theorem State.group_clearAll (n : GroupNo) : v.clearAll.group n = GroupRec.reset := State.group_of_reset rfl n

/-- The header device fields read 0 (R162, R182). -/
theorem State.windowByte_clearAll_header {a : Nat} (low : 0x10 ≤ a) (high : a < 0x40) : v.clearAll.windowByte a = 0 := by
  have zero : v.clearAll.headerDevice = List.replicate 48 0 := by
    show wordBytes 0 ++ halfBytes 0 ++ halfBytes 0 ++ wordBytes 0 ++ wordBytes 0 ++ wordBytes 0 ++ wordBytes 0 ++
      wordBytes 0 ++ wordBytes 0 ++ List.replicate 16 0 = List.replicate 48 0
    decide
  obtain ⟨i, rfl⟩ := Nat.exists_eq_add_of_le low
  rw [State.windowByte_header _ (by omega), zero]
  exact List.getElem?_getD_replicate_default_eq ..

/-- The mirrors read 0 (R27, R71, R162). -/
theorem State.windowByte_clearAll_mirror {a : Nat} (low : 0x400 ≤ a) (high : a < 0x680) : v.clearAll.windowByte a = 0 := by
  by_cases chains : a < 0x480
  · have address : a = 0x400 + 8 * ((⟨(a - 0x400) / 8, by omega⟩ : ChainNo)).val + a % 8 := by
      show a = 0x400 + 8 * ((a - 0x400) / 8) + a % 8
      omega
    rw [address, State.windowByte_chain _ _ (Nat.mod_lt _ (by decide)), State.chain_clearAll, ChainRec.mirror_reset]
    exact List.getElem?_getD_replicate_default_eq ..
  · have address : a = 0x480 + ((⟨(a - 0x480) / 8, by omega⟩ : GroupNo)).val * 8 + a % 8 := by
      show a = 0x480 + (a - 0x480) / 8 * 8 + a % 8
      omega
    rw [address, State.windowByte_group _ _ (Nat.mod_lt _ (by decide)), State.group_clearAll, GroupRec.mirror_reset]
    exact List.getElem?_getD_replicate_default_eq ..

end

theorem State.softResetCommand_of_ready {s : State} (ready : s.run.state ≠ .init) :
    s.softResetCommand = s.finishFrame.softReset := by
  unfold State.softResetCommand
  cases state : s.run.state
  case init => exact absurd state ready
  all_goals rfl

/-- The sweep cursor after a soft reset stands before slot 0 of the geometry in force (R111). -/
theorem State.resetCursor_val {s : State} {g : Geometry} (geometry : s.run.geometry = some g) (low : 1 ≤ g.slots)
    (high : g.slots ≤ 16) : s.resetCursor.val = g.slots - 1 := by
  rw [State.resetCursor, geometry]
  exact Nat.mod_eq_of_lt (by omega)

/-- Settles O9: the answers, the page given up, then what is cleared. -/
theorem softResetClearsAllButHostsOwn : Obligations.SoftResetClearsAllButHostsOwn := by
  rintro s u high opened ready rfl law taken
  have items := s.finishFrame_items
  obtain ⟨u, same⟩ : ∃ u, u = s.finishFrame := ⟨_, rfl⟩
  rw [← same] at law taken items ⊢
  have taken := State.takenLaw_iff.mp taken
  obtain ⟨v, answered⟩ : ∃ v, v = u.resetAnswered := ⟨_, rfl⟩
  have ran : exec (.softReset high) s = .next (v.abandonPage.clearAll.afterRegister 2) := by
    rw [exec_softReset_of_open opened, State.softResetCommand_of_ready ready, ← same, State.softReset_eq, answered]
  have kept : v = { u with
      chains := v.chains, lru := v.lru, read := none, window := v.window
      requests := { u.requests with taken := v.requests.taken }, alerts := { u.alerts with flags := v.alerts.flags } } := by
    rw [answered]
    exact u.resetAnswered_same
  have law' : v.windowLaw := answered ▸ State.windowLaw_resetAnswered law
  have run : v.abandonPage.run = u.run := by
    rw [State.abandonPage_run, kept]
  have pages : v.pages = u.pages := by rw [kept]
  have cleared : v.abandonPage.clearAll.run = { u.run with
      state := .idle, zeroing := none, frameTimer := none, signature := 0, epoch := 0, stamp := 0, refusal := 0 } := by
    rw [← run]
    rfl
  have enables : s.SameEnables v.abandonPage.clearAll := by
    have kept := u.softReset_keeps.2
    rw [State.softReset_eq, ← answered] at kept
    exact ⟨kept.1.trans items.enables.1, kept.2.trans items.enables.2⟩
  have calm : ((0 : BitVec 7) &&& v.abandonPage.clearAll.alerts.enables != 0) = false :=
    bne_eq_false_iff_eq.mpr BitVec.zero_and
  have window (x : Nat) : (v.abandonPage.clearAll.afterRegister 2).window.read x = v.abandonPage.window.read x := rfl
  refine ⟨_, ran, cleared, ?_, fun c => ⟨State.chain_clearAll v.abandonPage c, State.image_clearAll v.abandonPage c, ?_⟩,
    fun n => State.group_clearAll v.abandonPage n, rfl, rfl, rfl, rfl, rfl, rfl, rfl,
    fun g geometry low top => ?_, rfl, enables.1, enables.2,
    calm, fun a low top => State.windowByte_clearAll_header v.abandonPage low top,
    fun a low top => State.windowByte_clearAll_mirror v.abandonPage low top, fun h m => ?_, fun p held => ?_,
    fun a outside entry => ?_⟩
  · show v.abandonPage.clearAll.run.geometry = _
    rw [cleared]
    exact items.geometry
  · show (v.abandonPage.clearAll.chain c).state.excited = false
    rw [State.chain_clearAll]
    rfl
  · refine State.resetCursor_val (s := v.abandonPage) ?_ low top
    rw [run, items.geometry, geometry]
  · refine State.showsAnswer_of_keepsBoard (t := v.abandonPage.clearAll.afterRegister 2)
      State.abandonPage_keepsBoard law' ?_
    rw [answered]
    exact State.resetAnswered_shows law m
  · exact State.abandonPage_entry law' (pages ▸ held)
  · rw [window, State.windowRead_abandonPage law' fun p held => entry p (pages ▸ held), answered]
    exact State.windowRead_resetAnswered law taken outside

end Sys2Proof.Machine
end

section
/-! SUPPORT. A read completion stage by stage: what each of the stages after the fault logic and the filter can change
(R15, R36, R42, R45, R159). -/

namespace Sys2Proof.Machine

open Sys2Proof

/-! ## The warm set and the reader -/

/-- `t` differs from `s` in the warm set, the LRU order, the due queue, which loses at most chains, and the reader. -/
structure State.Shuffled (s t : State) : Prop where
  same : t = { s with chains := t.chains, lru := t.lru, due := t.due, read := t.read }
  chain : ∀ d : ChainNo, t.chain d = { s.chain d with
    state := (t.chain d).state, settle := (t.chain d).settle, idle := (t.chain d).idle, stale := (t.chain d).stale }
  due : t.due ⊆ s.due

theorem State.Shuffled.refl (s : State) : s.Shuffled s := ⟨rfl, fun _ => rfl, fun _ m => m⟩

theorem State.Shuffled.trans {s t u : State} (h : s.Shuffled t) (k : t.Shuffled u) : s.Shuffled u := by
  refine ⟨?_, fun d => ?_, fun _ m => h.due (k.due m)⟩
  · have first := h.same
    have second := k.same
    generalize t.chains = ch at first
    rw [first] at second
    exact second
  · rw [k.chain d, h.chain d]

section
variable (s : State) (c : ChainNo)

theorem State.chill_shuffled (cs : ChainState) : s.Shuffled (s.chill c cs) := by
  refine ⟨rfl, fun d => ?_, fun _ m => m⟩
  rw [State.chain_chill]
  split
  · rename_i same
    rw [same]
    rfl
  · rfl

theorem State.shuffled_of_granted {s t : State} (h : s.granted t) : s.Shuffled t := by
  obtain ⟨⟨ch, l, rfl, -⟩, makes⟩ := h
  refine ⟨rfl, fun d => ?_, fun _ m => m⟩
  rcases makes d with same | ⟨-, -, same⟩ | ⟨-, -, -, same⟩
  all_goals rw [same]
  rfl

theorem State.grantTest_shuffled : s.Shuffled s.grantTest := State.shuffled_of_granted s.grantTest_changes

theorem State.backToWarm_shuffled : s.Shuffled (s.backToWarm c) := by
  refine ⟨rfl, fun d => ?_, fun _ m => m⟩
  show (s.modChain c fun r => { r with state := .warm, idle := 0 }).chain d = { s.chain d with
    state := ((s.modChain c fun r => { r with state := .warm, idle := 0 }).chain d).state
    settle := ((s.modChain c fun r => { r with state := .warm, idle := 0 }).chain d).settle
    idle := ((s.modChain c fun r => { r with state := .warm, idle := 0 }).chain d).idle
    stale := ((s.modChain c fun r => { r with state := .warm, idle := 0 }).chain d).stale }
  rw [State.chain_modChain]
  split
  · rename_i same
    rw [same]
  · rfl

theorem State.handBackPlain_shuffled : s.Shuffled (s.handBackPlain c) := by
  unfold State.handBackPlain
  split
  · exact .refl s
  · split
    · exact s.chill_shuffled c .cold
    · exact s.backToWarm_shuffled c

theorem State.readerChoice_shuffled : s.Shuffled s.readerChoice := by
  rcases s.readerChoice_changes with same | ⟨g, e, -, -, -, -, starts⟩
  · rw [same]
    exact .refl s
  · rw [starts]
    refine ⟨rfl, fun d => ?_, List.filter_sublist.subset⟩
    rw [State.chain_startRead]
    split
    · rename_i same
      rw [same]
    · rfl

theorem State.dropReader_shuffled : s.Shuffled { s with read := none } := ⟨rfl, fun _ => rfl, fun _ m => m⟩

end

/-! ## The answers -/

/-- `t` differs from `s` by answers: chains' lists, the window, the taken set and flags. -/
structure State.Replied (s t : State) : Prop where
  same : t = { s with chains := t.chains, window := t.window, requests := { s.requests with taken := t.requests.taken }
                      alerts := { s.alerts with flags := t.alerts.flags } }
  chain : ∀ d : ChainNo, t.chain d = { s.chain d with waiting := (t.chain d).waiting }
  flags : ∀ f : Flag, f ≠ .answer → t.flagged f = s.flagged f

theorem State.Replied.refl (s : State) : s.Replied s := ⟨rfl, fun _ => rfl, fun _ _ => rfl⟩

theorem State.Replied.trans {s t u : State} (h : s.Replied t) (k : t.Replied u) : s.Replied u := by
  refine ⟨?_, fun d => ?_, fun f other => (k.flags f other).trans (h.flags f other)⟩
  · have first := h.same
    have second := k.same
    generalize t.chains = ch at first
    rw [first] at second
    exact second
  · rw [k.chain d, h.chain d]

section
variable (s : State)

theorem State.answerAll_replied (ks : List SlotNo) (a : Answer) : s.Replied (s.answerAll ks a) :=
  ⟨State.answerAll_same ks a, State.chain_answerAll, fun f other => by simp [State.flagged_answerAll, other]⟩

theorem State.answer_replied (k : SlotNo) (a : Answer) : s.Replied (s.answer k a) := s.answerAll_replied [k] a

theorem State.answerImages_replied (rd : ReadInProgress) (i : Image) : s.Replied (s.answerImages rd i) := by
  unfold State.answerImages
  generalize rd.attached = ks
  induction ks generalizing s with
  | nil => exact .refl s
  | cons k ks ih =>
    rw [List.foldl_cons]
    split
    · exact (s.answer_replied k _).trans (ih _)
    · exact ih s

theorem State.answerReads_replied (rd : ReadInProgress) (good : Bool) (judged : State) :
    s.Replied (s.answerReads rd good judged) := by
  unfold State.answerReads
  split
  · exact s.answerImages_replied rd _
  · split <;> exact s.answerAll_replied _ _

end

/-! ## The drain-end test -/

/-- What a drain's end touches (R159): the run, the frame work, the window from 0340h on, the pages and the flags. -/
theorem State.drainTest_touches (s : State) : s.drainTest = { s with
    run := s.drainTest.run, frame := s.drainTest.frame, window := s.drainTest.window, pages := s.drainTest.pages
    alerts := { s.alerts with flags := s.drainTest.alerts.flags } } := by
  by_cases drained : s.Drained
  · cases held : s.pages.current with
    | none => rw [State.drainTest_unheld drained held]
    | some p =>
      obtain ⟨_, w, -, -, ended⟩ := State.drainTest_held drained held
      rw [ended]
  · rw [State.drainTest_of_not_drained drained]

/-- The drain's end raises SEALED and STOPPED alone (R170). -/
theorem State.drainTest_flags (s : State) {f : Flag} (notSealed : f ≠ .sealed) (notStopped : f ≠ .stopped) :
    s.drainTest.flagged f = s.flagged f := by
  have kept {m : BitVec 7} {t : State} (clear : m.getLsbD f.bit = false) (flags : t.alerts.flags = s.alerts.flags ||| m) :
      t.flagged f = s.flagged f := by
    rw [Bool.eq_iff_iff, State.flagged_iff, State.flagged_iff, flags, BitVec.getLsbD_or, clear, Bool.or_false]
  have clear : (0x20 : BitVec 7).getLsbD f.bit = false ∧ (0x21 : BitVec 7).getLsbD f.bit = false := by
    cases f with
    | sealed => exact absurd rfl notSealed
    | stopped => exact absurd rfl notStopped
    | _ => decide
  by_cases drained : s.Drained
  · cases held : s.pages.current with
    | none => exact kept clear.1 (by rw [State.drainTest_unheld drained held])
    | some p =>
      obtain ⟨_, w, -, -, ended⟩ := State.drainTest_held drained held
      exact kept clear.2 (by rw [ended])
  · rw [State.drainTest_of_not_drained drained]

end Sys2Proof.Machine
end

section
/-! SUPPORT. The fault logic, the filter and the group evaluation of a read completion (R17 to R20, R43, R44). -/

namespace Sys2Proof.Machine

open Sys2Proof

/-! ## The count of generated records -/

/-- With no losses pending an attempt of the Page Writer generates no OVERRUN record (R84). -/
theorem State.pumpLoop_generated (n : Nat) {s : State} (settled : s.records.overrun = 0) :
    (s.pumpLoop n).records.generated = s.records.generated := by
  induction n generalizing s with
  | zero => rfl
  | succ n ih =>
    unfold State.pumpLoop
    cases s.records.queue with
    | nil => rfl
    | cons r rest =>
      cases s.pages.current with
      | some p =>
        have taken : (s.takeHead p r).records = { s.records with
            queue := s.records.queue.tail, written := s.records.written + 1 } := by
          rw [State.takeHead_records, State.removeHead_of_none settled]
        exact (ih (by rw [taken]; exact settled)).trans (by rw [taken])
      | none =>
        cases s.searchPage with
        | some p => exact ih settled
        | none => rfl

/-- A generation counts one record (R87). -/
theorem State.generate_generated {s : State} (law : s.tripQueueLaw) (r : Record) :
    (s.generate r).records.generated = s.records.generated + 1 := by
  rcases Nat.lt_or_ge s.records.queue.length 12 with room | full
  · have settled : s.records.overrun = 0 := by
      by_contra pending
      have := law.2.1 pending
      omega
    rw [State.generate_of_room room, State.pump, State.pumpLoop_generated, State.appendRecord_records,
      State.announced_records]
    rw [State.appendRecord_records, State.announced_records]
    exact settled
  · rw [State.generate_of_full full, State.dropRecord_records, State.announced_records]

/-! ## Records generated beside other changes -/

/-- `t` is `s` for the record path: run items, records, pages, window and alerts are its. -/
def State.SamePath (s t : State) : Prop := t = s.onto t

theorem State.SamePath.refl (s : State) : s.SamePath s := rfl

theorem State.SamePath.trans {s t u : State} (h : s.SamePath t) (k : t.SamePath u) : s.SamePath u := by
  have onto : s.onto u = t.onto u := by
    have first : t = s.onto t := h
    rw [first]
    rfl
  exact Eq.trans k onto.symm

theorem State.SamePath.generateAll {s t : State} (h : s.SamePath t) (rs : List Record) :
    (s.generateAll rs).SamePath (t.generateAll rs) := by
  have same : t = s.onto t := h
  rw [same, State.generateAll_onto]
  rfl

theorem State.SamePath.generate {s t : State} (h : s.SamePath t) (r : Record) : (s.generate r).SamePath (t.generate r) :=
  h.generateAll [r]

theorem State.SamePath.records {s t : State} (h : s.SamePath t) : t.records = s.records :=
  (congrArg State.records (show t = s.onto t from h) :)

theorem State.SamePath.flagged {s t : State} (h : s.SamePath t) (f : Flag) : t.flagged f = s.flagged f :=
  (congrArg (State.flagged · f) (show t = s.onto t from h) :)

theorem State.modChain_samePath (s : State) (c : ChainNo) (f : ChainRec → ChainRec) : s.SamePath (s.modChain c f) := rfl
theorem State.setImage_samePath (s : State) (c : ChainNo) (i : Image) : s.SamePath (s.setImage c i) := rfl
theorem State.setGroups_samePath (s : State) (v : Vector GroupRec 64) : s.SamePath (s.setGroups v) := rfl

/-! ## The check (R43) -/

/-- The check octet is the eight bits after the points (R39). -/
theorem ReadInProgress.octet_getLsbD (rd : ReadInProgress) {i : Nat} (less : i < 8) :
    rd.octet.getLsbD i = rd.received.getD (rd.length + i) false := by
  rw [ReadInProgress.octet, BitVec.getLsbD_setWidth, bitsOf_getLsbD _ _ _ (by omega), decide_eq_true less, Bool.true_and,
    Bool.true_and]

section
variable {s : State} {rd : ReadInProgress} {good : Bool} (ends : s.readEnds rd good)
include ends

/-- Stage 1 of a read that ends good or bad, by its octet (R43). -/
theorem State.readGood_of_ends : s.readGood rd = good := by
  obtain ⟨-, -, -, matched⟩ := ends
  rw [Bool.eq_iff_iff, matched, State.readGood, beq_iff_eq]
  constructor
  · intro same i less
    rw [← same, rd.octet_getLsbD less]
  · intro bits
    refine BitVec.eq_of_getLsbD_eq fun i less => ?_
    rw [rd.octet_getLsbD less, bits i less]

theorem exec_readCompletion_of_ends : exec .readCompletion s = .next (s.completeRead rd) := by
  obtain ⟨reading, unloaded, bits, -⟩ := ends
  have whole : rd.whole = true := by
    rw [ReadInProgress.whole, unloaded, bits]
    simp
  show execReadCompletion s = _
  rw [execReadCompletion, reading]
  exact if_pos whole

end
/-! ## A good read -/

/-- The record of a fault episode that a good read ends (R18). -/
def State.recovery (s : State) (c : ChainNo) : List Record :=
  if (s.chain c).faultRun = 0 then [] else [chainRecord .chainRecovered c (s.chain c).faultRun s.run.stamp]

theorem State.chain_countRead (s : State) (c d : ChainNo) : (s.countRead c).chain d =
    if d = c then { s.chain c with reads := (s.chain c).reads + 1, lastRead := lowHalf s.run.stamp } else s.chain d :=
  State.chain_modChain ..

theorem State.chain_generate (s : State) (r : Record) (d : ChainNo) : (s.generate r).chain d = s.chain d := by
  have chains : (s.generate r).chains = s.chains := s.generateAll_chains [r]
  rw [State.chain, chains, State.chain]

theorem State.chain_recover (s : State) (c d : ChainNo) :
    (s.recover c).chain d = if d = c then { s.chain c with faultRun := 0 } else s.chain d := by
  unfold State.recover
  split
  · rename_i well
    split
    · rename_i same
      rw [← well, same]
    · rfl
  · rw [State.chain_modChain, State.chain_generate, State.chain_generate]

theorem State.recover_samePath (s : State) (c : ChainNo) : (s.generateAll (s.recovery c)).SamePath (s.recover c) := by
  unfold State.recover State.recovery
  split
  · exact .refl s
  · exact State.modChain_samePath _ c _

section
variable (s : State) (rd : ReadInProgress)

/-- The image a good read leaves (R54). -/
def State.readImage : Image := (s.image rd.chain).filter rd.length (s.chain rd.chain).defn.depth rd.received

/-- The state a good read's evaluation starts from (R44). -/
def State.readFiltered : State := ((s.countRead rd.chain).recover rd.chain).setImage rd.chain (s.readImage rd)

theorem State.judgeRead_good (good : (s.countRead rd.chain).readGood rd = true) :
    (s.countRead rd.chain).judgeRead rd = (s.readFiltered rd).evaluateChain rd.chain := by
  have images := ((s.countRead rd.chain).recover_kept rd.chain).images
  have defn := ((s.countRead rd.chain).recover_kept rd.chain).defn rd.chain
  rw [State.judgeRead, if_pos good, State.filterRead, State.image, images, defn]
  rw [State.chain_countRead, if_pos rfl]
  rfl

theorem State.chain_readFiltered (d : ChainNo) : (s.readFiltered rd).chain d = if d = rd.chain then { s.chain rd.chain with
    reads := (s.chain rd.chain).reads + 1, lastRead := lowHalf s.run.stamp, faultRun := 0 } else s.chain d := by
  refine ((s.countRead rd.chain).chain_recover rd.chain d).trans ?_
  rw [State.chain_countRead, State.chain_countRead, if_pos rfl]
  split <;> rfl

theorem State.image_readFiltered (d : ChainNo) :
    (s.readFiltered rd).image d = if d = rd.chain then s.readImage rd else s.image d := by
  have images := ((s.countRead rd.chain).recover_kept rd.chain).images
  rw [State.readFiltered, State.image_setImage]
  split
  · rfl
  · rw [State.image, images]
    rfl

theorem State.group_readFiltered (n : GroupNo) : (s.readFiltered rd).group n = s.group n := by
  have groups := ((s.countRead rd.chain).recover_kept rd.chain).groups
  show ((s.countRead rd.chain).recover rd.chain).group n = s.group n
  rw [State.group, groups]
  rfl

theorem State.run_readFiltered : (s.readFiltered rd).run = s.run :=
  (((s.countRead rd.chain).recover_works rd.chain).run :)

theorem State.readFiltered_samePath : (s.generateAll (s.recovery rd.chain)).SamePath (s.readFiltered rd) := by
  have counted : (s.countRead rd.chain).recovery rd.chain = s.recovery rd.chain := by
    rw [State.recovery, State.chain_countRead, if_pos rfl]
    rfl
  have path := State.SamePath.generateAll (t := s.countRead rd.chain) (State.modChain_samePath s rd.chain _)
    (s.recovery rd.chain)
  have recovered := (s.countRead rd.chain).recover_samePath rd.chain
  rw [counted] at recovered
  exact (path.trans recovered).trans (State.setImage_samePath _ _ _)

/-- The value a group of the chain is judged by is that of the new image (R44, R60). -/
theorem State.value_readFiltered {n : GroupNo} (his : (s.group n).chain = rd.chain) :
    (s.readFiltered rd).value n = (s.group n).masked (s.readImage rd) := by
  rw [State.value, State.group_readFiltered, his, State.image_readFiltered, if_pos rfl]

/-- The trips of a good read (R44, R65). -/
def State.readTrips : List Record := (s.readFiltered rd).tripsIn rd.chain allGroups

theorem State.judged_samePath (good : (s.countRead rd.chain).readGood rd = true) :
    (s.generateAll (s.recovery rd.chain ++ s.readTrips rd)).SamePath ((s.countRead rd.chain).judgeRead rd) := by
  rw [s.judgeRead_good rd good, State.evaluateChain_eq, State.generateAll_append]
  exact ((s.readFiltered_samePath rd).generateAll _).trans (State.setGroups_samePath _ _)

end

/-! ## A bad read -/

section
variable {s : State} {rd : ReadInProgress} (bad : (s.countRead rd.chain).readGood rd = false)
include bad

/-- The state with the read counted and the fault run risen (R17). -/
def State.faulted (s : State) (c : ChainNo) : State :=
  (s.countRead c).modChain c fun r => { r with faultRun := (s.chain c).faultRun + 1 }

omit bad in
theorem State.chain_faulted (c d : ChainNo) : (s.faulted c).chain d = if d = c then { s.chain c with
    reads := (s.chain c).reads + 1, lastRead := lowHalf s.run.stamp, faultRun := (s.chain c).faultRun + 1 }
    else s.chain d := by
  rw [State.faulted, State.chain_modChain, State.chain_countRead, State.chain_countRead, if_pos rfl]
  split <;> rfl

theorem State.judgeRead_bad : (s.countRead rd.chain).judgeRead rd =
    if (s.chain rd.chain).defn.faultLimit ≤ (s.chain rd.chain).faultRun + 1 then
      ((s.faulted rd.chain).generate
        (chainRecord .chainLost rd.chain (s.chain rd.chain).defn.faultLimit s.run.stamp)).enterLost rd.chain
    else if (s.chain rd.chain).faultRun + 1 = 1 then
      (s.faulted rd.chain).generate (chainRecord .chainFault rd.chain 1 s.run.stamp)
    else s.faulted rd.chain := by
  rw [State.judgeRead, if_neg (by rw [bad]; decide), State.badRead]
  rw [State.chain_countRead, if_pos rfl]
  rfl

end

end Sys2Proof.Machine
end

section
/-! SUPPORT. A read completion with no request deferred: what the read leaves, and its answers (R15, R17 to R20, R42 to
R45). -/

namespace Sys2Proof.Machine

open Sys2Proof

/-! ## From the judgement to the end -/

/-- `t` has what the judgement `j` of a read left of images, groups, records and of the chains' records but their place in
the warm set and their lists. -/
structure State.Completed (j t : State) : Prop where
  images : t.images = j.images
  groups : t.groups = j.groups
  records : t.records = j.records
  chain : ∀ d : ChainNo, t.chain d = { j.chain d with
    state := (t.chain d).state, settle := (t.chain d).settle, idle := (t.chain d).idle, stale := (t.chain d).stale
    waiting := (t.chain d).waiting }
  due : t.due ⊆ j.due
  flags : ∀ f : Flag, f ≠ .answer → f ≠ .sealed → f ≠ .stopped → t.flagged f = j.flagged f

theorem State.chain_drainTest (s : State) (d : ChainNo) : s.drainTest.chain d = s.chain d := by
  rw [State.chain, s.drainTest_touches, State.chain]

/-- The stages after the judgement, one after another (R42, R159). -/
theorem State.completed_of_stages {j h a r : State} (handed : j.Shuffled h) (answered : h.Replied a)
    (chosen : a.Shuffled r) :
    j.Completed r.drainTest := by
  have tested := r.drainTest_touches
  refine ⟨?_, ?_, ?_, fun d => ?_, ?_, fun f notAnswer notSealed notStopped => ?_⟩
  · rw [tested]
    show r.images = _
    rw [chosen.same, answered.same, handed.same]
  · rw [tested]
    show r.groups = _
    rw [chosen.same, answered.same, handed.same]
  · rw [tested]
    show r.records = _
    rw [chosen.same, answered.same, handed.same]
  · rw [State.chain_drainTest, chosen.chain d, answered.chain d, handed.chain d]
  · rw [tested]
    show r.due ⊆ _
    refine List.Subset.trans chosen.due ?_
    rw [answered.same]
    exact handed.due
  · have kept {x y : State} (h : x.Shuffled y) : y.flagged f = x.flagged f := by
      have alerts : y.alerts = x.alerts := by rw [h.same]
      rw [State.flagged, alerts, State.flagged]
    rw [State.drainTest_flags r notSealed notStopped, kept chosen, answered.flags f notAnswer, kept handed]

/-- An answer outlasts the reader's choice and the drain's end. -/
theorem State.showsAnswer_of_stages {a r : State} (chosen : a.Shuffled r) (law : a.windowLaw) {k : SlotNo}
    {result detail : Byte} {stamp : Word} {payload : List Byte} (shows : a.showsAnswer k result detail stamp payload) :
    r.drainTest.showsAnswer k result detail stamp payload := by
  have window : r.window = a.window := by rw [chosen.same]
  refine State.showsAnswer_of_keepsBoard (s := a) ?_ law shows
  rw [← window]
  exact r.drainTest_keepsBoard

/-! ## The stages of a read -/

section
variable (s : State) (rd : ReadInProgress)

/-- What the read makes of the chain, its groups and the records (R42, stages 2 to 4). -/
def State.judged : State := (s.countRead rd.chain).judgeRead rd

/-- The state after the hand-back (R42, stage 5). -/
def State.handed : State := (s.judged rd).handBack rd.chain

/-- The state after the answers (R42, stage 6). -/
def State.served : State := (s.handed rd).answerReads rd ((s.countRead rd.chain).readGood rd) (s.judged rd)

/-- The state after the reader's next choice (R36). -/
def State.chosen : State := State.readerChoice { s.served rd with read := none }

theorem State.completeRead_stages : s.completeRead rd = (s.chosen rd).drainTest := rfl

theorem State.handed_replied : (s.handed rd).Replied (s.served rd) := State.answerReads_replied _ rd _ _

theorem State.served_shuffled : (s.served rd).Shuffled (s.chosen rd) :=
  (State.dropReader_shuffled _).trans (State.readerChoice_shuffled _)

theorem State.judged_works : s.Works (s.judged rd) :=
  Relation.ReflTransGen.trans (s.modChain_works rd.chain _) ((s.countRead rd.chain).judgeRead_works rd)

theorem State.judged_run : (s.judged rd).run = s.run := (s.judged_works rd).run

theorem State.judged_sameLists : s.SameLists (s.judged rd) :=
  have counted : s.SameLists (s.countRead rd.chain) := s.modChain_sameLists rd.chain fun _ => rfl
  counted.trans ((s.countRead rd.chain).judgeRead_sameLists rd)

theorem State.heldOf_judged (k : SlotNo) : (s.judged rd).heldOf k = s.heldOf k := by
  rw [State.heldOf, (s.judged_sameLists rd).taken, State.heldOf]

variable {s rd}

theorem State.readGood_counted {good : Bool} (ends : s.readEnds rd good) : (s.countRead rd.chain).readGood rd = good := by
  have defn : ((s.countRead rd.chain).chain rd.chain).defn = (s.chain rd.chain).defn := by
    rw [State.chain_countRead, if_pos rfl]
  have same : (s.countRead rd.chain).readGood rd = s.readGood rd := by
    rw [State.readGood, defn, State.readGood]
  exact same.trans (State.readGood_of_ends ends)

theorem State.served_good (ends : s.readEnds rd true) :
    s.served rd = (s.handed rd).answerImages rd ((s.judged rd).image rd.chain) := by
  rw [State.served, State.readGood_counted ends]
  rfl

theorem State.served_lost (ends : s.readEnds rd false) (lost : ((s.judged rd).chain rd.chain).state = .lost) :
    s.served rd = (s.handed rd).answerAll ((s.handed rd).lostReads rd) (Answer.plain .chainLost) := by
  rw [State.served, State.readGood_counted ends]
  exact if_pos lost

theorem State.served_fault (ends : s.readEnds rd false) (notLost : ((s.judged rd).chain rd.chain).state ≠ .lost) :
    s.served rd = (s.handed rd).answerAll rd.attached
      { result := .chainFault, detail := BitVec.ofNat 8 ((s.judged rd).chain rd.chain).faultRun, payload := [] } := by
  rw [State.served, State.readGood_counted ends]
  exact if_neg notLost

section
variable {l : List SlotNo} (waits : (s.chain rd.chain).waiting = .reads l)
include waits

theorem State.handed_reads : s.handed rd = ((s.judged rd).handBackPlain rd.chain).grantTest := by
  rw [State.handed, State.handBack, (s.judged_sameLists rd).waiting, waits]

theorem State.handed_shuffled : (s.judged rd).Shuffled (s.handed rd) := by
  rw [State.handed_reads waits]
  exact (State.handBackPlain_shuffled _ _).trans (State.grantTest_shuffled _)

theorem State.completed_of_reads : (s.judged rd).Completed (s.completeRead rd) :=
  State.completed_of_stages (State.handed_shuffled waits) (s.handed_replied rd) (s.served_shuffled rd)

theorem State.handed_run : (s.handed rd).run = s.run := by
  rw [(State.handed_shuffled waits).same]
  exact s.judged_run rd

theorem State.heldOf_handed (k : SlotNo) : (s.handed rd).heldOf k = s.heldOf k := by
  rw [← s.heldOf_judged rd k, State.heldOf, (State.handed_shuffled waits).same, State.heldOf]

theorem State.windowLaw_handed (law : s.windowLaw) : (s.handed rd).windowLaw := by
  have window : (s.handed rd).window = (s.judged rd).window := by rw [(State.handed_shuffled waits).same]
  rw [State.windowLaw, window]
  exact State.windowLaw_of_works (s.judged_works rd) law

end

/-- An answer of the read's outlasts the completion. -/
theorem State.completeRead_shows (law : (s.served rd).windowLaw) {k : SlotNo} {result detail : Byte} {stamp : Word}
    {payload : List Byte} (shows : (s.served rd).showsAnswer k result detail stamp payload) :
    (s.completeRead rd).showsAnswer k result detail stamp payload :=
  State.showsAnswer_of_stages (s.served_shuffled rd) law shows

end

/-! ## The images read -/

/-- A point of an image in the bytes of a payload (R138). -/
theorem Image.bytes_getLsbD (i : Image) (pick : Point → Bool) {j : Nat} (less : j < 128) :
    ((i.bytes pick).getD (j / 8) 0).getLsbD (j % 8) = pick (i.point j) := by
  have place : 8 * (j / 8) + j % 8 = j := Nat.div_add_mod j 8
  have byte : (i.bytes pick).getD (j / 8) 0 = (bitsOf 8 fun b => pick (i.point (8 * (j / 8) + b))).setWidth 8 := by
    simp [Image.bytes, List.getD, show j / 8 < 16 by omega]
  rw [byte, BitVec.getLsbD_setWidth, bitsOf_getLsbD _ _ _ (by omega), place]
  simp [Nat.mod_lt j (show 0 < 8 by decide)]

theorem State.heldOf_answer_of_ne {s : State} {j k : SlotNo} (a : Answer) (apart : k ≠ j) :
    (s.answer j a).heldOf k = s.heldOf k := by
  unfold State.heldOf
  rw [State.answer_taken, State.takenBut, List.find?_filter]
  congr 2
  funext h
  by_cases same : h.slot = k
  · simp [same, apart]
  · simp [same]

theorem State.heldOf_answer_self {s : State} (k : SlotNo) (a : Answer) : (s.answer k a).heldOf k = none := by
  cases held : (s.answer k a).heldOf k with
  | none => rfl
  | some r => exact absurd rfl (State.heldOf_answer held).1

/-- One attached request of a good read answered, if it is taken (R45). -/
def State.answerImage (s : State) (rd : ReadInProgress) (i : Image) (k : SlotNo) : State :=
  ((s.heldOf k).map fun r => s.answer k (imageAnswer i rd.length r)).getD s

theorem State.answerImages_eq (s : State) (rd : ReadInProgress) (i : Image) :
    s.answerImages rd i = rd.attached.foldl (fun t k => t.answerImage rd i k) s := by
  unfold State.answerImages
  refine congrArg (fun f => List.foldl f s rd.attached) (funext fun t => funext fun k => ?_)
  unfold State.answerImage
  cases t.heldOf k <;> rfl

section
variable {s : State} {rd : ReadInProgress} {i : Image} {k : SlotNo}

theorem State.answerImage_held {r : Request} (held : s.heldOf k = some r) :
    s.answerImage rd i k = s.answer k (imageAnswer i rd.length r) := by
  rw [State.answerImage, held]
  rfl

theorem State.answerImage_none (free : s.heldOf k = none) : s.answerImage rd i k = s := by
  rw [State.answerImage, free]
  rfl

/-- The answer of one slot leaves the request and the answer of another. -/
theorem State.answerImage_other {j : SlotNo} (law : s.windowLaw) (apart : k ≠ j) :
    (s.answerImage rd i j).heldOf k = s.heldOf k ∧
    ∀ x, ownedByPart k x → (s.answerImage rd i j).window.read x = s.window.read x := by
  cases held : s.heldOf j with
  | none =>
    rw [State.answerImage_none held]
    exact ⟨rfl, fun _ _ => rfl⟩
  | some r =>
    rw [State.answerImage_held held]
    exact ⟨State.heldOf_answer_of_ne _ apart, fun x owned => State.windowRead_answer law _ (ownedByPart_apart apart owned)⟩

theorem State.answerImage_works (j : SlotNo) : s.Works (s.answerImage rd i j) := by
  cases held : s.heldOf j with
  | none =>
    exact (State.answerImage_none held).symm ▸ Relation.ReflTransGen.refl
  | some r =>
    rw [State.answerImage_held held]
    exact s.answer_works j _

/-- A request that is attached and taken is answered with the image in its form (R138); once answered it is taken no
more, and its slot keeps what it shows. -/
theorem State.answerImages_shows (law : s.windowLaw) {r : Request} (m : k ∈ rd.attached) (held : s.heldOf k = some r) :
    (s.answerImages rd i).showsAnswer k 0x00 (BitVec.ofNat 8 (rd.length / 8)) s.run.stamp
      (imageAnswer i rd.length r).payload := by
  have all (ks : List SlotNo) (u : State) (law : u.windowLaw) (run : u.run = s.run)
      (shows : k ∈ ks ∧ u.heldOf k = some r ∨ u.heldOf k = none ∧ u.showsAnswer k 0x00 (BitVec.ofNat 8 (rd.length / 8))
        s.run.stamp (imageAnswer i rd.length r).payload) :
      (ks.foldl (fun t k => t.answerImage rd i k) u).showsAnswer k 0x00 (BitVec.ofNat 8 (rd.length / 8)) s.run.stamp
        (imageAnswer i rd.length r).payload := by
    induction ks generalizing u with
    | nil => exact (shows.resolve_left fun h => List.not_mem_nil h.1).2
    | cons j ks ih =>
      refine ih (u.answerImage rd i j) (State.windowLaw_of_works (State.answerImage_works j) law)
        ((State.answerImage_works j).run.trans run) ?_
      by_cases same : k = j
      · subst same
        refine .inr ?_
        rcases shows with ⟨-, held⟩ | ⟨free, shows⟩
        · rw [State.answerImage_held held, ← run]
          exact ⟨State.heldOf_answer_self _ _, State.answer_shows law _ _⟩
        · rw [State.answerImage_none free]
          exact ⟨free, shows⟩
      · obtain ⟨still, stands⟩ := State.answerImage_other (rd := rd) (i := i) law same
        rw [still]
        exact shows.imp (fun h => ⟨(List.mem_cons.mp h.1).resolve_left same, h.2⟩)
          fun h => ⟨h.1, State.showsAnswer_of_stands stands h.2⟩
  rw [State.answerImages_eq]
  exact all rd.attached s law rfl (.inl ⟨m, held⟩)

end

end Sys2Proof.Machine
end

section
/-! SUPPORT. READ_COMPLETION with no request deferred, good or bad (R15 to R20, R43 to R45). -/

namespace Sys2Proof.Machine

open Sys2Proof

/-! ## A good read -/

section
variable {s : State} {rd : ReadInProgress} (ends : s.readEnds rd true)
include ends

theorem State.judged_good : s.judged rd = (s.readFiltered rd).evaluateChain rd.chain :=
  s.judgeRead_good rd (State.readGood_counted ends)

/-- A good read is counted, the fault episode over (R18, R43). -/
theorem State.chain_judged_good (d : ChainNo) : (s.judged rd).chain d = if d = rd.chain then { s.chain rd.chain with
    reads := (s.chain rd.chain).reads + 1, lastRead := lowHalf s.run.stamp, faultRun := 0 } else s.chain d := by
  rw [State.judged_good ends, State.chain, State.evaluateChain_chains]
  exact s.chain_readFiltered rd d

theorem State.image_judged_good (d : ChainNo) :
    (s.judged rd).image d = if d = rd.chain then s.readImage rd else s.image d := by
  rw [State.judged_good ends, State.image, State.evaluateChain_images]
  exact s.image_readFiltered rd d

theorem State.group_judged_good (n : GroupNo) : (s.judged rd).group n = if s.groupOf rd.chain n = true then
    (s.group n).evaluated ((s.group n).masked (s.readImage rd)) s.run.stamp else s.group n := by
  have same := s.group_readFiltered rd n
  rw [State.judged_good ends, State.group_evaluateChain, State.groupOf_congr same, same, s.run_readFiltered rd]
  split
  · rename_i his
    rw [State.value_readFiltered]
    rw [State.groupOf, Bool.and_eq_true, beq_iff_eq] at his
    exact his.2
  · rfl

end

/-- Settles O27: the judgement of a good read, and the answers with its image. -/
theorem goodReadFiltersAndAnswers : Obligations.GoodReadFiltersAndAnswers := by
  intro s rd l ends waits law
  have done := State.completed_of_reads waits
  have chains := State.chain_judged_good ends
  have self := chains rd.chain
  rw [if_pos rfl] at self
  have image (d : ChainNo) : (s.completeRead rd).image d = if d = rd.chain then s.readImage rd else s.image d := by
    rw [State.image, done.images]
    exact State.image_judged_good ends d
  refine ⟨_, exec_readCompletion_of_ends ends, ?_, ?_, ?_, ?_, fun d => ?_, fun d other => ⟨?_, ?_⟩, fun n other => ?_,
    fun k m r held => ⟨(imageAnswer (s.readImage rd) rd.length r).payload, ?_, fun j less => ?_⟩⟩
  · rw [done.chain, self]
  · rw [done.chain, self]
  · rw [done.chain, self]
  · rw [image, if_pos rfl]
    rfl
  · rw [done.chain, chains]
    split
    · rename_i same
      rw [same]
      exact ⟨rfl, rfl⟩
    · exact ⟨rfl, rfl⟩
  · rw [image, if_neg other]
  · rw [done.chain, chains, if_neg other]
    exact ⟨rfl, rfl, rfl⟩
  · rw [State.group, done.groups]
    refine (State.group_judged_good ends n).trans (if_neg fun his => ?_)
    rw [State.groupOf, Bool.and_eq_true, beq_iff_eq] at his
    rcases other with undefined | elsewhere
    · rw [undefined] at his
      cases his.1
    · exact elsewhere his.2
  · have law' := State.windowLaw_handed (rd := rd) waits law
    have served := State.served_good ends
    rw [State.image_judged_good ends, if_pos rfl] at served
    refine State.completeRead_shows ?_ ?_
    · rw [served]
      exact State.windowLaw_of_works (State.answerImages_works _ rd _) law'
    · rw [served, ← State.handed_run (rd := rd) waits]
      exact State.answerImages_shows law' m ((State.heldOf_handed waits k).trans held)
  · rw [image, if_pos rfl]
    refine (Image.bytes_getLsbD _ _ less).trans ?_
    by_cases form : r.param 1 = 1
    · have filtered : r.filteredForm = true := beq_iff_eq.mpr form
      rw [if_pos form, if_pos filtered]
    · have raw : ¬ r.filteredForm = true := fun filtered => form (beq_iff_eq.mp filtered)
      rw [if_neg form, if_neg raw]

/-- The trip records of a good read, in ascending group number (R44, R65). -/
theorem State.readTrips_eq (s : State) (rd : ReadInProgress) : s.readTrips rd =
    (List.finRange 64).filterMap (fun n =>
      if (s.group n).defined = true ∧ (s.group n).chain = rd.chain then
        ((s.group n).tripKind ((s.group n).masked (s.readImage rd))).map fun kind =>
          { seq := 0, kind := kind, cls := (s.group n).cls, chain := some rd.chain, group := some n
            before := (s.group n).last, after := (s.group n).masked (s.readImage rd), detail := (s.group n).trips + 1
            stamp := s.run.stamp }
      else none) := by
  have all : allGroups = List.finRange 64 := List.ofFn_id 64
  rw [State.readTrips, State.tripsIn, all]
  refine List.filterMap_congr fun n _ => ?_
  have same := s.group_readFiltered rd n
  rw [State.groupOf_congr same, State.trip, same, s.run_readFiltered rd]
  by_cases his : (s.group n).defined = true ∧ (s.group n).chain = rd.chain
  · have belongs : s.groupOf rd.chain n = true := by simpa [State.groupOf] using his
    rw [if_pos his, if_pos belongs, s.value_readFiltered rd his.2, ← his.2]
    rfl
  · have foreign : ¬ s.groupOf rd.chain n = true := by simpa [State.groupOf] using his
    rw [if_neg his, if_neg foreign]

/-- Settles O28: one evaluation of the chain's groups, after the recovery's record. -/
theorem goodReadEvaluatesGroups : Obligations.GoodReadEvaluatesGroups := by
  intro s rd l i recovered trips ends waits imageIs recoveredIs tripsIs
  obtain rfl : i = s.readImage rd := imageIs
  obtain rfl : recovered = s.recovery rd.chain := recoveredIs
  obtain rfl : trips = s.readTrips rd := tripsIs.trans (s.readTrips_eq rd).symm
  have done := State.completed_of_reads waits
  refine ⟨_, exec_readCompletion_of_ends ends, ?_, ?_⟩
  · rintro n _ rfl defined his
    have evaluated : (s.completeRead rd).group n =
        (s.group n).evaluated ((s.group n).masked (s.readImage rd)) s.run.stamp := by
      rw [State.group, done.groups]
      refine (State.group_judged_good ends n).trans (if_pos ?_)
      rw [State.groupOf, defined, his]
      exact beq_self_eq_true _
    refine ⟨fun silent => ?_, fun trips => ?_⟩
    · rw [evaluated, GroupRec.evaluated_of_silent silent]
      rfl
    · obtain ⟨kind, trips⟩ := Option.ne_none_iff_exists'.mp trips
      rw [evaluated, GroupRec.evaluated_of_trip trips]
      rfl
  · have path := s.judged_samePath rd (State.readGood_counted ends)
    rw [done.records]
    exact path.records

end Sys2Proof.Machine
end

section
/-! SUPPORT. READ_COMPLETION of a bad read with no request deferred (R17, R19, R20, R45). -/

namespace Sys2Proof.Machine

open Sys2Proof

/-! ## The reader's next choice -/

/-- An idle reader reads the earliest WARM chain that is due (R36). -/
theorem State.readerChoice_read {s : State} (idle : s.read = none) (geometry : s.run.geometry.isSome = true) :
    s.readerChoice.read.map ReadInProgress.chain = s.dueWarm := by
  obtain ⟨g, inForce⟩ := Option.isSome_iff_exists.mp geometry
  cases first : s.dueWarm with
  | none =>
    have same : s.readerChoice = s := by
      unfold State.readerChoice
      rw [idle, inForce, first]
    rw [same, idle]
    rfl
  | some c =>
    rw [State.readerChoice_starts idle inForce first]
    rfl

/-- The reader's choice leaves a chain that is not WARM (R36). -/
theorem State.chain_readerChoice_of {s : State} {c : ChainNo} (notWarm : (s.chain c).state ≠ .warm) :
    s.readerChoice.chain c = s.chain c := by
  rcases s.readerChoice_changes with same | ⟨g, e, -, -, -, warm, starts⟩
  · rw [same]
  · rw [starts, State.chain_startRead, if_neg]
    rintro rfl
    exact notWarm warm

/-- A chain that is due is WARM after the grant test just when it was before (R9). -/
theorem State.grantTest_warm {s : State} {d : ChainNo} (due : d ∈ s.due) :
    (s.grantTest.chain d).state = .warm ↔ (s.chain d).state = .warm := by
  rcases s.grantTest_changes.2 d with same | ⟨-, cold, made⟩ | ⟨notDue, -⟩
  · rw [same]
  · rw [made, cold]
    exact ⟨fun no => (nomatch no), fun no => (nomatch no)⟩
  · exact absurd due notDue

section
variable (s : State) (rd : ReadInProgress)

/-- The reader after a completion in RUNNING (R36, R47). -/
theorem State.completeRead_running (running : s.run.state = .running) (handed : (s.handed rd).run = s.run) :
    s.completeRead rd = s.chosen rd := by
  have run : (s.chosen rd).run = s.run := by
    rw [(s.served_shuffled rd).same]
    show (s.served rd).run = _
    rw [(s.handed_replied rd).same]
    exact handed
  have goesOn : (s.chosen rd).run.state = .running := by rw [run, running]
  exact State.drainTest_of_not_drained (State.not_drained (.inl goesOn))

/-- The answers leave the earliest WARM chain that is due. -/
theorem State.served_dueWarm : (s.served rd).dueWarm = (s.handed rd).dueWarm := by
  have replied := s.handed_replied rd
  have due : (s.served rd).due = (s.handed rd).due := by rw [replied.same]
  rw [State.dueWarm, due, State.dueWarm]
  refine congrArg (fun p => List.find? p _) (funext fun c => ?_)
  rw [replied.chain c]

/-- The chain read next in RUNNING (R36, R47). -/
theorem State.completeRead_next (running : s.run.state = .running) (geometry : s.run.geometry.isSome = true)
    (handed : (s.handed rd).run = s.run) :
    (s.completeRead rd).read.map ReadInProgress.chain = (s.handed rd).dueWarm := by
  have run : (s.served rd).run = s.run := by
    rw [(s.handed_replied rd).same]
    exact handed
  rw [s.completeRead_running rd running handed, ← s.served_dueWarm rd]
  exact State.readerChoice_read (s := { s.served rd with read := none }) rfl (by rw [run]; exact geometry)

end

/-! ## The judgement -/

section
variable {s : State} {rd : ReadInProgress} (ends : s.readEnds rd false)
include ends

theorem State.judged_bad_kept : (s.judged rd).images = s.images ∧ (s.judged rd).groups = s.groups := by
  have bad := State.readGood_counted ends
  have kept : (s.countRead rd.chain).Kept (s.judged rd) := by
    rw [State.judged, State.judgeRead, if_neg (by rw [bad]; decide)]
    exact (s.countRead rd.chain).badRead_kept rd.chain
  exact ⟨kept.images, kept.groups⟩

section
variable (below : (s.chain rd.chain).faultRun + 1 < (s.chain rd.chain).defn.faultLimit)
include below

theorem State.judged_fault : s.judged rd = if (s.chain rd.chain).faultRun = 0 then
    (s.faulted rd.chain).generate (chainRecord .chainFault rd.chain 1 s.run.stamp) else s.faulted rd.chain := by
  rw [State.judged, State.judgeRead_bad (State.readGood_counted ends), if_neg (Nat.not_le.mpr below)]
  exact if_congr (by omega) rfl rfl

theorem State.chain_judged_fault (d : ChainNo) : (s.judged rd).chain d = if d = rd.chain then { s.chain rd.chain with
    reads := (s.chain rd.chain).reads + 1, lastRead := lowHalf s.run.stamp, faultRun := (s.chain rd.chain).faultRun + 1 }
    else s.chain d := by
  rw [← State.chain_faulted, State.judged_fault ends below]
  split
  · exact State.chain_generate _ _ d
  · rfl

end

section
variable (limit : (s.chain rd.chain).defn.faultLimit ≤ (s.chain rd.chain).faultRun + 1)
include limit

theorem State.judged_lost : s.judged rd = ((s.faulted rd.chain).generate
    (chainRecord .chainLost rd.chain (s.chain rd.chain).defn.faultLimit s.run.stamp)).enterLost rd.chain := by
  rw [State.judged, State.judgeRead_bad (State.readGood_counted ends), if_pos limit]

theorem State.chain_judged_lost (d : ChainNo) : (s.judged rd).chain d = if d = rd.chain then
    { (s.chain rd.chain).chilled .lost with
      reads := (s.chain rd.chain).reads + 1, lastRead := lowHalf s.run.stamp, faultRun := (s.chain rd.chain).faultRun + 1
      periodCounter := 0 } else s.chain d := by
  rw [State.judged_lost ends limit, State.chain_enterLost, State.chain_generate, State.chain_generate, State.chain_faulted,
    State.chain_faulted, if_pos rfl]
  split <;> rfl

end
end

/-- Settles O30: the fault run risen, its record at the first, the answers. -/
theorem badReadRaisesFaultRun : Obligations.BadReadRaisesFaultRun := by
  intro s rd l ends waits reading below law
  have done := State.completed_of_reads waits
  have self := State.chain_judged_fault ends below rd.chain
  rw [if_pos rfl] at self
  obtain ⟨images, groups⟩ := State.judged_bad_kept ends
  have path : s.SamePath (s.faulted rd.chain) := rfl
  refine ⟨_, exec_readCompletion_of_ends ends, ?_, ?_, ?_, done.images.trans images, done.groups.trans groups,
    fun first => ?_,
    fun later => ?_, fun k m _ => ?_⟩
  · rw [done.chain, self]
  · rw [done.chain, self]
  · rw [done.chain, self]
  · have judged := State.judged_fault ends below
    rw [if_pos first] at judged
    have records : (s.completeRead rd).records =
        (s.generate (chainRecord .chainFault rd.chain 1 s.run.stamp)).records := by
      rw [done.records, judged]
      exact (path.generate _).records
    refine ⟨?_, fun trip => ?_, records⟩
    · rw [done.flags .chain (by decide) (by decide) (by decide), judged,
        State.flagged_generate_of_ne (by decide) (by decide)]
      exact Bool.or_true _
    · rw [records, State.generate_generated trip]
  · have judged := State.judged_fault ends below
    rw [if_neg later] at judged
    have flags (f : Flag) : (s.judged rd).flagged f = s.flagged f := by
      rw [judged]
      exact path.flagged f
    refine ⟨?_, ?_, ?_⟩
    · rw [done.records, judged]
      exact path.records
    · rw [done.flags .chain (by decide) (by decide) (by decide), flags]
    · rw [done.flags .trip (by decide) (by decide) (by decide), flags]
  · have law' := State.windowLaw_handed (rd := rd) waits law
    have served := State.served_fault ends (by rw [self]; exact fun no => nomatch reading.symm.trans no)
    rw [self] at served
    refine State.completeRead_shows ?_ ?_
    · rw [served]
      exact State.windowLaw_answerAll _ _ law'
    · rw [served, ← State.handed_run (rd := rd) waits]
      exact State.answerAll_shows law' m

/-- Settles O31: the chain LOST before the hand-back, which leaves it there. -/
theorem faultLimitMakesChainLost : Obligations.FaultLimitMakesChainLost := by
  intro s rd l ends waits limit law
  have done := State.completed_of_reads waits
  have chains := State.chain_judged_lost ends limit
  have self := chains rd.chain
  rw [if_pos rfl] at self
  have lost : ((s.judged rd).chain rd.chain).state = .lost := by rw [self]; rfl
  have judged := State.judged_lost ends limit
  have due : (s.judged rd).due = s.due.filter (· != rd.chain) := by
    obtain ⟨_, _, _, _, generated, -⟩ := (s.faulted rd.chain).generate_changes
      (chainRecord .chainLost rd.chain (s.chain rd.chain).defn.faultLimit s.run.stamp)
    rw [judged, generated]
    rfl
  have off : rd.chain ∉ (s.judged rd).due := by simp [due]
  have handed : s.handed rd = (s.judged rd).grantTest := by
    rw [State.handed_reads waits, State.handBackPlain, if_pos lost]
  have state : ((s.completeRead rd).chain rd.chain).state = .lost := by
    have kept : (s.handed rd).chain rd.chain = (s.judged rd).chain rd.chain := by
      rw [handed, State.chain_grantTest_of]
      · exact fun due => absurd due off
      · rw [lost]
        exact fun _ no => nomatch no
    have still : ((s.served rd).chain rd.chain).state = .lost := by
      rw [(s.handed_replied rd).chain, kept]
      exact lost
    have notWarm : ((s.served rd).chain rd.chain).state ≠ .warm := by
      rw [still]
      exact fun no => nomatch no
    rw [State.completeRead_stages, State.chain_drainTest]
    have stands := State.chain_readerChoice_of (s := { s.served rd with read := none }) notWarm
    exact (congrArg ChainRec.state stands).trans still
  obtain ⟨images, groups⟩ := State.judged_bad_kept ends
  have path : s.SamePath (s.faulted rd.chain) := rfl
  have records : (s.completeRead rd).records = (s.generate
      (chainRecord .chainLost rd.chain (s.chain rd.chain).defn.faultLimit s.run.stamp)).records := by
    rw [done.records, judged]
    exact (path.generate _).records
  refine ⟨_, exec_readCompletion_of_ends ends, state, ?_, fun m => off (done.due m), ?_, ?_, ?_, ?_,
    done.images.trans images, done.groups.trans groups, ?_, fun trip => by rw [records, State.generate_generated trip], records,
    fun running geometry => ?_, fun k m => ?_⟩
  · rw [State.excitation, state]
    rfl
  · rw [done.chain, self]
  · rw [done.chain, self]
  · rw [done.chain, self]
    rfl
  · rw [done.chain, self]
    rfl
  · rw [done.flags .chain (by decide) (by decide) (by decide), judged]
    refine (State.flagged_generate_of_ne (by decide) (by decide) _ _).trans ?_
    exact Bool.or_true _
  · rw [s.completeRead_next rd running geometry (State.handed_run waits), handed, State.dueWarm, State.grantTest_due, due,
      List.find?_filter]
    refine List.find?_congr fun d m => ?_
    by_cases same : d = rd.chain
    · simp [same]
    · have notSame : (d != rd.chain) = true := bne_iff_ne.mpr same
      have member : d ∈ (s.judged rd).due := by
        rw [due]
        exact List.mem_filter.mpr ⟨m, notSame⟩
      have warm := State.grantTest_warm member
      rw [chains, if_neg same] at warm
      rw [notSame, Bool.eq_iff_iff]
      simpa using warm
  · have law' := State.windowLaw_handed (rd := rd) waits law
    have served := State.served_lost ends lost
    have list : ((s.handed rd).chain rd.chain).waiting.slots = l := by
      rw [(State.handed_shuffled waits).chain, self]
      show (s.chain rd.chain).waiting.slots = l
      rw [waits]
      rfl
    have answered : k ∈ (s.handed rd).lostReads rd := by
      rw [State.lostReads, list, List.mem_append, List.mem_filter]
      by_cases attached : k ∈ rd.attached
      · exact .inl attached
      · exact .inr ⟨m.resolve_left attached, by simpa using attached⟩
    refine State.completeRead_shows ?_ ?_
    · rw [served]
      exact State.windowLaw_answerAll _ _ law'
    · rw [served, ← State.handed_run (rd := rd) waits]
      exact State.answerAll_shows law' answered

end Sys2Proof.Machine
end

section
/-! SUPPORT. READ_COMPLETION with a SET_CHAIN or a PARK_CHAIN deferred on the chain (R15, R135, R141). -/

namespace Sys2Proof.Machine

open Sys2Proof

/-- `x` comes from the judgement `j` by what the deferred request does to the chain: requests, run and window stand, and the
chain is neither due nor WARM. -/
structure State.Yields (j x : State) (c : ChainNo) : Prop where
  requests : x.requests = j.requests
  run : x.run = j.run
  window : x.window = j.window
  notDue : c ∉ x.due
  notWarm : (x.chain c).state ≠ .warm
  waiting : (x.chain c).waiting = (j.chain c).waiting

section
variable (j : State) (c : ChainNo)

theorem State.reconfigure_yields (d : ChainDef) : j.Yields (j.reconfigure c d) c := by
  obtain ⟨ch, l, changed, -⟩ := j.reconfigure_changes c d
  have own := j.chain_reconfigure_self c d
  refine ⟨by rw [changed], by rw [changed], by rw [changed], by simp [changed], ?_, by rw [own]; rfl⟩
  rw [own]
  show (if d.enabled then ChainState.cold else .off) ≠ .warm
  split <;> exact ChainState.noConfusion

theorem State.park_yields : j.Yields (j.park c) c := by
  obtain ⟨ch, l, changed, -⟩ := j.park_changes c
  have own := j.chain_park_self c
  refine ⟨by rw [changed], by rw [changed], by rw [changed], by simp [changed], ?_, by rw [own]; rfl⟩
  rw [own]
  exact ChainState.noConfusion

end

/-! ## From the hand-back to the end -/

/-- What a completion leaves of the chain whose deferred request acted: `x` is the state in which it was answered. -/
structure State.Acted (t x : State) (c : ChainNo) (k : SlotNo) (a : Answer) (stamp : Word) : Prop where
  notRead : t.read.map ReadInProgress.chain ≠ some c
  freed : ∀ h ∈ t.requests.taken, h.slot ≠ k
  notDue : c ∉ t.due
  shows : t.showsAnswer k a.result.code a.detail stamp a.payload
  chain : ∃ w, t.chain c = { x.chain c with waiting := w }
  images : t.images = x.images

section
variable {s : State} {rd : ReadInProgress} {good : Bool} {k : SlotNo} {r : Request} (ends : s.readEnds rd good)
  (waits : (s.chain rd.chain).waiting = .deferred k) (held : s.heldOf k = some r) (named : r.chain = rd.chain)
  (unattached : rd.attached = [])

include ends unattached in
/-- With no request attached, and none left on the list, the completion answers no other (R45). -/
theorem State.served_unattached (empty : ((s.handed rd).chain rd.chain).waiting.slots = []) :
    s.served rd = s.handed rd := by
  cases good with
  | true =>
    rw [State.served_good ends, State.answerImages, unattached]
    rfl
  | false =>
    by_cases lost : ((s.judged rd).chain rd.chain).state = .lost
    · rw [State.served_lost ends lost, State.lostReads, unattached, empty]
      rfl
    · rw [State.served_fault ends lost, unattached]
      rfl

include waits held in
theorem State.handed_deferred :
    s.handed rd = ((s.judged rd).handBackDeferred rd.chain k r).grantTest := by
  rw [State.handed, State.handBack, (s.judged_sameLists rd).waiting, waits]
  dsimp only
  rw [s.heldOf_judged rd k, held]

include ends waits held named unattached

theorem State.acted_of_answer {x : State} {a : Answer} (law : s.windowLaw) (yields : (s.judged rd).Yields x rd.chain)
    (handed : s.handed rd = (x.answer k a).grantTest) : (s.completeRead rd).Acted x rd.chain k a s.run.stamp := by
  have law' : x.windowLaw := by
    rw [State.windowLaw, yields.window]
    exact State.windowLaw_of_works (s.judged_works rd) law
  have request : x.heldOf k = some r := by
    rw [State.heldOf, yields.requests, ← State.heldOf, s.heldOf_judged rd k, held]
  have answered := x.answer_replied k a
  have granted := (x.answer k a).grantTest_shuffled
  have due : (x.answer k a).due = x.due := by rw [answered.same]
  have state : ((x.answer k a).chain rd.chain).state = (x.chain rd.chain).state := by rw [answered.chain]
  have chain : (s.handed rd).chain rd.chain = (x.answer k a).chain rd.chain := by
    rw [handed, State.chain_grantTest_of]
    · rw [due]
      exact fun m => absurd m yields.notDue
    · rw [state]
      exact fun _ => yields.notWarm
  have freed : ((x.answer k a).chain rd.chain).waiting = .reads [] := by
    rw [State.chain_answer, request]
    dsimp only
    rw [if_pos (by rw [Option.map_some, named]), yields.waiting, (s.judged_sameLists rd).waiting, waits]
    exact if_pos rfl
  have served : s.served rd = s.handed rd := State.served_unattached ends unattached (by rw [chain, freed]; rfl)
  have chosen := s.served_shuffled rd
  have tested := (s.chosen rd).drainTest_touches
  have notDue : rd.chain ∉ (s.handed rd).due := by
    rw [handed, State.grantTest_due, due]
    exact yields.notDue
  have same : (s.handed rd).chain rd.chain = { x.chain rd.chain with
      waiting := ((x.answer k a).chain rd.chain).waiting } := chain.trans (answered.chain _)
  have next : (s.chosen rd).chain rd.chain = (s.handed rd).chain rd.chain := by
    rw [← served]
    refine State.chain_readerChoice_of (s := { s.served rd with read := none }) ?_
    show ((s.served rd).chain rd.chain).state ≠ .warm
    rw [served, same]
    exact yields.notWarm
  rw [served] at chosen
  have window : (s.handed rd).window = (x.answer k a).window := by
    rw [handed, granted.same]
  rw [State.completeRead_stages]
  refine ⟨?_, fun h m => ?_, fun m => ?_, ?_, ⟨((x.answer k a).chain rd.chain).waiting, ?_⟩, ?_⟩
  · rw [tested]
    show (s.chosen rd).read.map _ ≠ _
    have choice := State.readerChoice_changes { s.served rd with read := none }
    rcases choice with stays | ⟨g, e, -, -, due, -, starts⟩
    · rw [State.chosen, stays]
      exact fun no => nomatch no
    · rw [State.chosen, starts]
      intro same
      cases same
      exact notDue (served ▸ due)
  · rw [tested] at m
    change h ∈ (s.chosen rd).requests.taken at m
    rw [chosen.same, handed, granted.same] at m
    exact bne_iff_ne.mp (List.mem_filter.mp m).2
  · rw [tested] at m
    exact notDue (chosen.due m)
  · refine State.showsAnswer_of_stages chosen ?_ ?_
    · rw [State.windowLaw, window]
      exact State.windowLaw_answer law' k a
    · rw [← s.judged_run rd, ← yields.run]
      refine State.showsAnswer_of_stands (fun z _ => ?_) (State.answer_shows law' k a)
      rw [window]
  · rw [State.chain_drainTest, next, same]
  · rw [tested]
    show (s.chosen rd).images = _
    rw [chosen.same, handed, granted.same, answered.same]

/-- A deferred SET_CHAIN: the chain is reconfigured (R15, R135). -/
theorem State.acted_setChain (law : s.windowLaw) (kind : r.kind = 0x01) : (s.completeRead rd).Acted
    ((s.judged rd).reconfigure rd.chain r.chainDef) rd.chain k (Answer.plain .ok) s.run.stamp := by
  refine State.acted_of_answer ends waits held named unattached law (State.reconfigure_yields _ _ _) ?_
  rw [State.handed_deferred waits held, State.handBackDeferred, if_pos (kindOf_setChain.mpr kind)]

/-- Any other request deferred on a chain that the read made LOST (R15, R141). -/
theorem State.acted_lost (law : s.windowLaw) (kind : r.kind ≠ 0x01) (lost : ((s.judged rd).chain rd.chain).state = .lost)
    (notDue : rd.chain ∉ (s.judged rd).due) : (s.completeRead rd).Acted
    (s.judged rd) rd.chain k (Answer.plain .chainLost) s.run.stamp := by
  refine State.acted_of_answer ends waits held named unattached law ⟨rfl, rfl, rfl, notDue, ?_, rfl⟩ ?_
  · rw [lost]
    exact ChainState.noConfusion
  · rw [State.handed_deferred waits held, State.handBackDeferred, if_neg fun same => kind (kindOf_setChain.mp same),
      if_pos lost]

/-- A deferred PARK_CHAIN, the chain not LOST (R15, R141). -/
theorem State.acted_park (law : s.windowLaw) (kind : r.kind ≠ 0x01)
    (notLost : ((s.judged rd).chain rd.chain).state ≠ .lost) :
    (s.completeRead rd).Acted ((s.judged rd).park rd.chain) rd.chain k (Answer.plain .ok) s.run.stamp := by
  refine State.acted_of_answer ends waits held named unattached law (State.park_yields _ _) ?_
  rw [State.handed_deferred waits held, State.handBackDeferred, if_neg fun same => kind (kindOf_setChain.mp same),
    if_neg notLost]

end

/-! ## The chain at the hand-back -/

section
variable {s : State} {rd : ReadInProgress} {good : Bool} (ends : s.readEnds rd good)
include ends

/-- A read that does not reach the fault limit leaves its chain READING, its definition and its period counter. -/
theorem State.judged_reading (reading : (s.chain rd.chain).state = .reading)
    (holds : good = true ∨ (s.chain rd.chain).faultRun + 1 < (s.chain rd.chain).defn.faultLimit) :
    ((s.judged rd).chain rd.chain).state = .reading ∧
    ((s.judged rd).chain rd.chain).defn = (s.chain rd.chain).defn ∧
    ((s.judged rd).chain rd.chain).periodCounter = (s.chain rd.chain).periodCounter := by
  cases good with
  | true =>
    rw [State.chain_judged_good ends, if_pos rfl]
    exact ⟨reading, rfl, rfl⟩
  | false =>
    rw [State.chain_judged_fault ends (holds.resolve_left Bool.false_ne_true), if_pos rfl]
    exact ⟨reading, rfl, rfl⟩

end

/-- A chain that a bad read makes LOST is not due (R19). -/
theorem State.judged_lost_notDue {s : State} {rd : ReadInProgress} (ends : s.readEnds rd false)
    (limit : (s.chain rd.chain).defn.faultLimit ≤ (s.chain rd.chain).faultRun + 1) :
    ((s.judged rd).chain rd.chain).state = .lost ∧ rd.chain ∉ (s.judged rd).due := by
  constructor
  · rw [State.chain_judged_lost ends limit, if_pos rfl]
    rfl
  · rw [State.judged_lost ends limit]
    simp [State.enterLost, State.leaveDue, State.cancelExpiry, State.setFrame]

/-- Settles O32: the deferred request acts and is answered before the reader chooses. -/
theorem deferredRequestActsAtHandBack : Obligations.DeferredRequestActsAtHandBack := by
  intro s rd good k r ends waits held named reading unattached law
  have ran := exec_readCompletion_of_ends ends
  have setChain := State.acted_setChain ends waits held named unattached law
  have lost := State.acted_lost ends waits held named unattached law
  have park := State.acted_park ends waits held named unattached law
  have holds := State.judged_reading ends reading
  generalize s.completeRead rd = t at *
  have parks (kind : r.kind ≠ 0x01)
      (notLost : good = true ∨ (s.chain rd.chain).faultRun + 1 < (s.chain rd.chain).defn.faultLimit) :
      t.Acted ((s.judged rd).park rd.chain) rd.chain k (Answer.plain .ok) s.run.stamp :=
    park kind (by rw [(holds notLost).1]; exact ChainState.noConfusion)
  have loses (kind : r.kind ≠ 0x01) (bad : good = false)
      (limit : (s.chain rd.chain).defn.faultLimit ≤ (s.chain rd.chain).faultRun + 1) :
      t.Acted (s.judged rd) rd.chain k (Answer.plain .chainLost) s.run.stamp :=
    have made := State.judged_lost_notDue (bad ▸ ends) limit
    lost kind made.1 made.2
  have acted : ∃ x a, t.Acted x rd.chain k a s.run.stamp := by
    by_cases kind : r.kind = 0x01
    · exact ⟨_, _, setChain kind⟩
    · by_cases notLost : good = true ∨ (s.chain rd.chain).faultRun + 1 < (s.chain rd.chain).defn.faultLimit
      · exact ⟨_, _, parks kind notLost⟩
      · rw [not_or, Bool.not_eq_true, Nat.not_lt] at notLost
        exact ⟨_, _, loses kind notLost.1 notLost.2⟩
  obtain ⟨_, _, acted⟩ := acted
  refine ⟨t, ran, acted.notRead, acted.freed, acted.notDue, fun kind => ?_, fun kind notLost => ?_,
    fun kind bad limit => ?_⟩
  · have done := setChain kind
    obtain ⟨w, chain⟩ := done.chain
    rw [State.chain_reconfigure_self] at chain
    refine ⟨done.shows, by rw [chain]; rfl, ?_, by rw [chain]; rfl, by rw [chain]; rfl, by rw [chain]; rfl, ?_, ?_⟩
    · rw [chain, ChainRec.reconfigured_eq]
    · rw [State.image, done.images]
      obtain ⟨_, _, changed, -⟩ := (s.judged rd).reconfigure_changes rd.chain r.chainDef
      rw [changed]
      exact ((s.judged rd).image_unprime rd.chain rd.chain).trans (if_pos rfl)
    · rw [chain, ChainRec.reconfigured_eq]
  · have notSet : r.kind ≠ 0x01 := by rw [kind]; decide
    have done := parks notSet notLost
    obtain ⟨w, chain⟩ := done.chain
    rw [State.chain_park_self] at chain
    obtain ⟨-, defn, period⟩ := holds notLost
    exact ⟨done.shows, by rw [chain]; rfl, by rw [chain, ← defn]; rfl, by rw [chain, ← period]; rfl⟩
  · have notSet : r.kind ≠ 0x01 := by rw [kind]; decide
    have done := loses notSet bad limit
    obtain ⟨w, chain⟩ := done.chain
    refine ⟨done.shows, ?_⟩
    rw [chain]
    exact (State.judged_lost_notDue (bad ▸ ends) limit).1

end Sys2Proof.Machine
end

section
/-! SUPPORT. Grants: what they read of the part, and what becomes of the chain that stands last in the LRU order (R7, R9). -/

namespace Sys2Proof.Machine

open Sys2Proof

/-! ## Grants as commands -/

theorem State.grantLoop_of_none {s : State} (none : s.grantOne = none) (n : Nat) : s.grantLoop n = s := by
  cases n with
  | zero => rfl
  | succ n => rw [State.grantLoop, none]

/-- EXCITATION_GRANT several times over is the grant test of as many rounds (R10). -/
theorem State.after_grants (n : Nat) (s : State) : s.after (List.replicate n .excitationGrant) = s.grantLoop n := by
  induction n generalizing s with
  | zero => rfl
  | succ n ih =>
    rw [List.replicate_succ, State.grantLoop]
    cases granted : s.grantOne with
    | none =>
      have ran : exec .excitationGrant s = .next s := by
        show execExcitationGrant s = _
        rw [execExcitationGrant, granted]
      rw [State.after_cons ran, ih, State.grantLoop_of_none granted]
    | some t =>
      have ran : exec .excitationGrant s = .next t := by
        show execExcitationGrant s = _
        rw [execExcitationGrant, granted]
      rw [State.after_cons ran, ih]

/-! ## What grants read -/

/-- `t` has what a grant reads and writes as `s` has it. -/
structure State.GrantsAlike (s t : State) : Prop where
  lru : t.lru = s.lru
  due : t.due = s.due
  geometry : t.run.geometry = s.run.geometry
  state : ∀ d : ChainNo, (t.chain d).state = (s.chain d).state
  settle : ∀ d : ChainNo, (t.chain d).settle = (s.chain d).settle
  idle : ∀ d : ChainNo, (t.chain d).idle = (s.chain d).idle
  defn : ∀ d : ChainNo, (t.chain d).defn = (s.chain d).defn

section
variable {s t : State} (alike : s.GrantsAlike t)
include alike

theorem State.GrantsAlike.dueCold : t.dueCold = s.dueCold := by
  unfold State.dueCold
  simp only [alike.due, alike.state]

theorem State.GrantsAlike.victim : t.victim = s.victim := by
  have eligible : t.eligible = s.eligible := funext fun d => by
    simp only [State.eligible, alike.state, alike.defn, alike.due]
  rw [State.victim, eligible, alike.lru, State.victim]

theorem State.GrantsAlike.below : (t.warmCount < t.warmLimit) ↔ (s.warmCount < s.warmLimit) := by
  unfold State.warmCount State.warmLimit
  simp only [alike.state, alike.geometry]

theorem State.GrantsAlike.excite (c : ChainNo) : (s.excite c).GrantsAlike (t.excite c) := by
  have record (d : ChainNo) := s.chain_excite c d
  have record' (d : ChainNo) := t.chain_excite c d
  refine ⟨alike.lru, alike.due, alike.geometry, fun d => ?_, fun d => ?_, fun d => ?_, fun d => ?_⟩
  all_goals
    rw [record, record']
    split
    · simp only [alike.defn, alike.idle]
    · simp only [alike.state, alike.settle, alike.idle, alike.defn]

theorem State.GrantsAlike.chill (c : ChainNo) (cs : ChainState) : (s.chill c cs).GrantsAlike (t.chill c cs) := by
  refine ⟨congrArg (List.filter (· != c)) alike.lru, alike.due, alike.geometry, fun d => ?_, fun d => ?_, fun d => ?_,
    fun d => ?_⟩
  all_goals
    rw [State.chain_chill, State.chain_chill]
    split
    · simp only [ChainRec.chilled, alike.defn]
    · simp only [alike.state, alike.settle, alike.idle, alike.defn]

/-- The same grant falls in both, or none (R9). -/
theorem State.GrantsAlike.grantOne : Option.Rel State.GrantsAlike s.grantOne t.grantOne := by
  unfold State.grantOne
  rw [alike.dueCold]
  cases s.dueCold with
  | none => exact .none
  | some c =>
    by_cases below : s.warmCount < s.warmLimit
    · simp only [if_pos below, if_pos (alike.below.mpr below)]
      exact .some (alike.excite c)
    · simp only [if_neg below, if_neg fun h => below (alike.below.mp h), alike.victim]
      cases s.victim with
      | none => exact .none
      | some v => exact .some ((alike.chill v .cold).excite c)

theorem State.GrantsAlike.grantLoop (n : Nat) : (s.grantLoop n).GrantsAlike (t.grantLoop n) := by
  induction n generalizing s t with
  | zero => exact alike
  | succ n ih =>
    have one := alike.grantOne
    unfold State.grantLoop
    generalize s.grantOne = x at one ⊢
    generalize t.grantOne = y at one ⊢
    cases one with
    | none => exact alike
    | some made => exact ih made

end

/-! ## The most recent chain -/

/-- A chain COLD and not due is granted nothing more. -/
theorem State.grantLoop_cold {s : State} {c : ChainNo} (notDue : c ∉ s.due) (cold : (s.chain c).state = .cold) (n : Nat) :
    ((s.grantLoop n).chain c).state = .cold := by
  rcases (s.grantLoop_changes n).2 c with same | ⟨due, -⟩ | ⟨-, warm, -⟩
  · rw [same, cold]
  · exact absurd due notDue
  · rw [cold] at warm
    cases warm

/-- A due chain in SETTLING stays so. -/
theorem State.grantLoop_settling {s : State} {d : ChainNo} (due : d ∈ s.due) (settling : (s.chain d).state = .settling)
    (n : Nat) : ((s.grantLoop n).chain d).state = .settling := by
  rcases (s.grantLoop_changes n).2 d with same | ⟨-, cold, -⟩ | ⟨notDue, -⟩
  · rw [same, settling]
  · rw [settling] at cold
    cases cold
  · exact absurd due notDue

/-- A grant is one of two kinds (R9). -/
theorem State.grantOne_eq_some {s w : State} (granted : s.grantOne = some w) : ∃ e, s.dueCold = some e ∧
    (w = s.excite e ∨ ∃ v, s.victim = some v ∧ w = (s.chill v .cold).excite e) := by
  unfold State.grantOne at granted
  cases first : s.dueCold with
  | none => simp [first] at granted
  | some e =>
    refine ⟨e, rfl, ?_⟩
    simp only [first] at granted
    split at granted
    · cases granted
      exact .inl rfl
    · cases victim : s.victim with
      | none => simp [victim] at granted
      | some v =>
        simp only [victim, Option.some.injEq] at granted
        exact .inr ⟨v, rfl, granted.symm⟩

/-- The chain granted is the earliest COLD one due, and it settles. -/
theorem State.settling_of_grantOne {s w : State} (granted : s.grantOne = some w) : ∃ e ∈ s.due,
    (s.chain e).state = .cold ∧ (w.chain e).state = .settling := by
  obtain ⟨e, first, made⟩ := State.grantOne_eq_some granted
  obtain ⟨due, cold⟩ := State.dueCold_spec first
  refine ⟨e, due, cold, ?_⟩
  rcases made with rfl | ⟨v, -, rfl⟩
  · rw [State.chain_excite, if_pos rfl]
  · rw [State.chain_excite, if_pos rfl]

/-- The chain most recent in the LRU order stays most recent while it stays WARM (R7). -/
theorem State.grantLoop_last {s : State} {c : ChainNo} {older : List ChainNo} (last : s.lru = older ++ [c]) (n : Nat)
    (warm : ((s.grantLoop n).chain c).state = .warm) : ∃ older, (s.grantLoop n).lru = older ++ [c] := by
  induction n generalizing s older with
  | zero => exact ⟨older, last⟩
  | succ n ih =>
    rw [State.grantLoop] at warm ⊢
    cases granted : s.grantOne with
    | none => exact ⟨older, last⟩
    | some w =>
      simp only [granted] at warm ⊢
      obtain ⟨e, first, rfl | ⟨v, victim, rfl⟩⟩ := State.grantOne_eq_some granted
      · exact ih (s := s.excite e) last warm
      · obtain ⟨-, warmed, -, notDue⟩ := State.victim_spec victim
        obtain ⟨-, cold⟩ := State.dueCold_spec first
        by_cases same : v = c
        · subst same
          have apart : v ≠ e := by
            rintro rfl
            rw [warmed] at cold
            cases cold
          have demoted : (((s.chill v .cold).excite e).chain v).state = .cold := by
            rw [State.chain_excite, if_neg apart, State.chain_chill, if_pos rfl]
            rfl
          rw [State.grantLoop_cold (s := (s.chill v .cold).excite e) notDue demoted] at warm
          cases warm
        · refine ih (s := (s.chill v .cold).excite e) (older := older.filter (· != v)) ?_ warm
          show s.lru.filter (· != v) = _
          rw [last, List.filter_append]
          simp [Ne.symm same]

/-- A WARM chain that a grant test demotes made way for a COLD chain that is due (R7, R9). -/
theorem State.grantTest_demotes {s : State} {c : ChainNo} (warm : (s.chain c).state = .warm)
    (demoted : (s.grantTest.chain c).state ≠ .warm) :
    (s.grantTest.chain c).state = .cold ∧ c ∉ s.due ∧ (s.chain c).defn.pinned = false ∧
    ∃ d ∈ s.due, (s.chain d).state = .cold ∧ (s.grantTest.chain d).state = .settling := by
  rcases s.grantTest_changes.2 c with same | ⟨-, cold, -⟩ | ⟨notDue, -, unpinned, made⟩
  · exact absurd (same ▸ warm) demoted
  · rw [warm] at cold
    cases cold
  · refine ⟨by rw [made]; rfl, notDue, unpinned, ?_⟩
    cases granted : s.grantOne with
    | none =>
      rw [State.grantTest, State.grantLoop_of_none granted] at demoted
      exact absurd warm demoted
    | some w =>
      obtain ⟨e, due, cold, settling⟩ := State.settling_of_grantOne granted
      have rest : s.grantTest = w.grantLoop 15 := by
        rw [State.grantTest, State.grantLoop, granted]
      obtain ⟨⟨_, _, same, -⟩, -⟩ := State.grantOne_changes granted
      refine ⟨e, due, cold, ?_⟩
      rw [rest]
      exact State.grantLoop_settling (by rw [same]; exact due) settling 15

end Sys2Proof.Machine
end

section
/-! SUPPORT. The hand-back of a read with no request deferred, and the reader's next choice (R15, R36, R47, R159). -/

namespace Sys2Proof.Machine

open Sys2Proof

/-! ## The reader's choice, field by field -/

section
variable {p : State} (idle : p.read = none) (geometry : p.run.geometry.isSome = true)
include idle geometry

/-- What an idle reader's choice leaves of the queues and the chains, and what it attaches (R36, R37). -/
theorem State.readerChoice_leaves :
    p.readerChoice.due = p.due.filter (fun d => some d != p.dueWarm) ∧
    p.readerChoice.lru = p.lru.filter (fun d => some d != p.dueWarm) ∧
    (∀ d : ChainNo, p.readerChoice.chain d =
      { p.chain d with state := if p.dueWarm = some d then .reading else (p.chain d).state }) ∧
    ∀ rd, p.readerChoice.read = some rd → rd.attached = (p.readerChoice.chain rd.chain).waiting.slots := by
  obtain ⟨g, inForce⟩ := Option.isSome_iff_exists.mp geometry
  cases first : p.dueWarm with
  | none =>
    have same : p.readerChoice = p := by
      unfold State.readerChoice
      rw [idle, inForce, first]
    rw [same]
    refine ⟨(List.filter_eq_self.mpr fun _ _ => rfl).symm, (List.filter_eq_self.mpr fun _ _ => rfl).symm, fun d => rfl,
      fun rd reading => ?_⟩
    rw [idle] at reading
    cases reading
  | some c =>
    rw [State.readerChoice_starts idle inForce first]
    refine ⟨rfl, rfl, fun d => ?_, fun rd reading => ?_⟩
    · rw [State.chain_startRead]
      by_cases same : d = c
      · rw [if_pos same, if_pos (by rw [same]), same]
      · rw [if_neg same, if_neg fun e => same (Option.some.inj e).symm]
    · cases reading
      rw [State.chain_startRead, if_pos rfl]

end

/-! ## The judgement of a read that does not make its chain LOST -/

section
variable {s : State} {rd : ReadInProgress} {good : Bool} (ends : s.readEnds rd good)
  (holds : good = true ∨ (s.chain rd.chain).faultRun + 1 < (s.chain rd.chain).defn.faultLimit)
include ends holds

/-- The queues and the frame work stand. -/
theorem State.judged_sameWarmth : s.SameWarmth (s.judged rd) := by
  have counted : s.SameWarmth (s.countRead rd.chain) := s.modChain_sameWarmth rd.chain (fun _ => rfl) fun _ => rfl
  cases good with
  | true =>
    have judged : s.judged rd = ((s.countRead rd.chain).recover rd.chain).filterRead rd := by
      rw [State.judged, State.judgeRead, if_pos (State.readGood_counted ends)]
    rw [judged]
    exact (counted.trans (State.recover_sameWarmth _ _)).trans (State.filterRead_sameWarmth _ _)
  | false =>
    have faulted : s.SameWarmth (s.faulted rd.chain) :=
      counted.trans (State.modChain_sameWarmth _ rd.chain (fun _ => rfl) fun _ => rfl)
    rw [State.judged_fault ends (holds.resolve_left Bool.false_ne_true)]
    split
    · exact faulted.trans (State.generate_sameWarmth _ _)
    · exact faulted

/-- Of the chains' records only the counts of the chain that was read change (R17, R18, R43). -/
theorem State.chain_judged (d : ChainNo) : (s.judged rd).chain d = { s.chain d with
    faultRun := ((s.judged rd).chain d).faultRun, reads := ((s.judged rd).chain d).reads
    lastRead := ((s.judged rd).chain d).lastRead } := by
  cases good with
  | true =>
    rw [State.chain_judged_good ends]
    split
    · rename_i same
      rw [same]
    · rfl
  | false =>
    rw [State.chain_judged_fault ends (holds.resolve_left Bool.false_ne_true)]
    split
    · rename_i same
      rw [same]
    · rfl

end

/-! ## In RUNNING -/

/-- The state that the statement's grants start from: the chain handed back, the reader idle (R15, case 6). -/
def State.warmed (s : State) (c : ChainNo) : State :=
  { s with lru := s.lru ++ [c], read := none
           chains := s.chains.set c.val { s.chain c with state := .warm, idle := 0 } }

theorem State.chain_warmed (s : State) (c d : ChainNo) : (s.warmed c).chain d =
    if d = c then { s.chain c with state := .warm, idle := 0 } else s.chain d := State.chain_setChain ..

section
variable {s : State} {rd : ReadInProgress} {good : Bool} {l : List SlotNo} (ends : s.readEnds rd good)
  (waits : (s.chain rd.chain).waiting = .reads l) (reading : (s.chain rd.chain).state = .reading)
  (holds : good = true ∨ (s.chain rd.chain).faultRun + 1 < (s.chain rd.chain).defn.faultLimit)
include ends waits reading holds

/-- The hand-back in RUNNING (R15, case 6). -/
theorem State.handed_running (running : s.run.state = .running) :
    s.handed rd = ((s.judged rd).backToWarm rd.chain).grantTest := by
  have state := (State.judged_reading ends reading holds).1
  rw [State.handed_reads waits, State.handBackPlain, if_neg (by rw [state]; exact ChainState.noConfusion),
    if_neg (by rw [s.judged_run rd, running]; exact RunState.noConfusion)]

/-- The hand-back in DRAINING (R15, case 5). -/
theorem State.handed_draining (draining : s.run.state = .draining) (noDue : s.due = []) :
    s.handed rd = (s.judged rd).chill rd.chain .cold := by
  have state := (State.judged_reading ends reading holds).1
  have due : ((s.judged rd).chill rd.chain .cold).due = [] := (State.judged_sameWarmth ends holds).due.trans noDue
  rw [State.handed_reads waits, State.handBackPlain, if_neg (by rw [state]; exact ChainState.noConfusion),
    if_pos (by rw [s.judged_run rd, draining]), State.grantTest_of_noDue due]

omit waits reading in
/-- The grants after the hand-back are those that the statement names (R10). -/
theorem State.warmed_alike : (s.warmed rd.chain).GrantsAlike ((s.judged rd).backToWarm rd.chain) := by
  have warmth := State.judged_sameWarmth ends holds
  have judged := State.chain_judged ends holds
  have back (d : ChainNo) : ((s.judged rd).backToWarm rd.chain).chain d =
      if d = rd.chain then { (s.judged rd).chain rd.chain with state := .warm, idle := 0 } else (s.judged rd).chain d :=
    (s.judged rd).chain_modChain rd.chain d fun r => { r with state := .warm, idle := 0 }
  refine ⟨congrArg (· ++ [rd.chain]) warmth.lru, warmth.due, warmth.geometry, fun d => ?_, fun d => ?_, fun d => ?_,
    fun d => ?_⟩
  all_goals
    rw [back, State.chain_warmed]
    split
    · rw [judged]
    · rw [judged]

theorem State.handed_alike (running : s.run.state = .running) :
    ((s.warmed rd.chain).grantTest).GrantsAlike (s.handed rd) := by
  rw [State.handed_running ends waits reading holds running]
  exact (State.warmed_alike ends holds).grantLoop 16

/-- The reader's next chain is the earliest due that is WARM or just handed back (R36, R47). -/
theorem State.handed_dueWarm (running : s.run.state = .running) :
    (s.handed rd).dueWarm = s.due.find? (fun d => d == rd.chain || (s.chain d).state == .warm) := by
  have alike := State.handed_alike ends waits reading holds running
  have due : (s.handed rd).due = s.due := alike.due.trans (State.grantTest_due _)
  rw [State.dueWarm, due]
  refine List.find?_congr fun d m => ?_
  have warm := State.grantTest_warm (s := s.warmed rd.chain) m
  rw [alike.state, Bool.eq_iff_iff, beq_iff_eq, warm, State.chain_warmed]
  by_cases same : d = rd.chain
  · simp [same]
  · simp [same]

end

/-- What the answers leave of the state the reader chooses in. -/
theorem State.served_chain (s : State) (rd : ReadInProgress) (d : ChainNo) :
    (s.served rd).chain d = { (s.handed rd).chain d with waiting := ((s.served rd).chain d).waiting } :=
  (s.handed_replied rd).chain d

/-- The chain handed back after the grants: WARM and most recent, or COLD for a COLD chain that is due (R7, R9, R15). -/
theorem State.warmed_granted (s : State) (c : ChainNo) :
    ((s.warmed c).grantTest.chain c).state = .warm ∧ (∃ older, (s.warmed c).grantTest.lru = older ++ [c]) ∨
    ((s.warmed c).grantTest.chain c).state = .cold ∧ c ∉ s.due ∧ (s.chain c).defn.pinned = false ∧
      ∃ d ∈ s.due, (s.chain d).state = .cold ∧ ((s.warmed c).grantTest.chain d).state = .settling := by
  have warm : ((s.warmed c).chain c).state = .warm := by rw [State.chain_warmed, if_pos rfl]
  by_cases stays : ((s.warmed c).grantTest.chain c).state = .warm
  · exact .inl ⟨stays, State.grantLoop_last (s := s.warmed c) (older := s.lru) rfl 16 stays⟩
  · obtain ⟨cold, notDue, unpinned, d, due, dCold, settling⟩ := State.grantTest_demotes warm stays
    have apart : d ≠ c := by
      rintro rfl
      exact notDue due
    rw [State.chain_warmed, if_pos rfl] at unpinned
    rw [State.chain_warmed, if_neg apart] at dCold
    exact .inr ⟨cold, notDue, unpinned, d, due, dCold, settling⟩

theorem State.warmed_idle (s : State) (c : ChainNo) : ((s.warmed c).grantTest.chain c).idle = 0 := by
  have idle : ((s.warmed c).chain c).idle = 0 := by rw [State.chain_warmed, if_pos rfl]
  rcases (s.warmed c).grantTest_changes.2 c with same | ⟨-, -, made⟩ | ⟨-, -, -, made⟩
  · rw [same, idle]
  · rw [made]
    exact idle
  · rw [made]
    rfl

/-- What CompletionHandsChainBack says of RUNNING: `u` is the state after the grants, `next` the reader's choice. -/
theorem State.completeRead_handsBack {s : State} {rd : ReadInProgress} {good : Bool} {l : List SlotNo}
    (ends : s.readEnds rd good) (waits : (s.chain rd.chain).waiting = .reads l)
    (reading : (s.chain rd.chain).state = .reading)
    (holds : good = true ∨ (s.chain rd.chain).faultRun + 1 < (s.chain rd.chain).defn.faultLimit)
    (running : s.run.state = .running) (geometry : s.run.geometry.isSome = true) {u : State} {next : Option ChainNo}
    (grants : u = (s.warmed rd.chain).grantTest)
    (first : next = s.due.find? (fun d => d == rd.chain || (s.chain d).state == .warm)) :
    (s.completeRead rd).read.map ReadInProgress.chain = next ∧
    (∀ rd', (s.completeRead rd).read = some rd' → rd'.attached = ((s.completeRead rd).chain rd'.chain).waiting.slots) ∧
    (s.completeRead rd).due = s.due.filter (fun d => some d != next) ∧
    (s.completeRead rd).lru = u.lru.filter (fun d => some d != next) ∧
    ∀ d : ChainNo, ((s.completeRead rd).chain d).state = (if next = some d then .reading else (u.chain d).state) ∧
      ((s.completeRead rd).chain d).settle = (u.chain d).settle ∧ ((s.completeRead rd).chain d).idle = (u.chain d).idle := by
  have alike := State.handed_alike ends waits reading holds running
  rw [← grants] at alike
  have due : (s.handed rd).due = s.due := by
    rw [alike.due, grants]
    exact State.grantTest_due _
  have run := State.handed_run (rd := rd) waits
  have replied := s.handed_replied rd
  have dueWarm : State.dueWarm { s.served rd with read := none } = next := by
    rw [first, ← State.handed_dueWarm ends waits reading holds running]
    exact s.served_dueWarm rd
  have inForce : (s.served rd).run.geometry.isSome = true := by
    rw [replied.same]
    show (s.handed rd).run.geometry.isSome = true
    rw [run, geometry]
  obtain ⟨dueLeft, lruLeft, chains, attached⟩ :=
    State.readerChoice_leaves (p := { s.served rd with read := none }) rfl inForce
  rw [dueWarm] at dueLeft lruLeft chains
  rw [s.completeRead_running rd running run]
  refine ⟨(State.readerChoice_read (s := { s.served rd with read := none }) rfl inForce).trans dueWarm, attached, ?_, ?_,
    fun d => ?_⟩
  · refine dueLeft.trans ?_
    show (s.served rd).due.filter _ = _
    rw [replied.same]
    exact congrArg (List.filter _) due
  · refine lruLeft.trans ?_
    show (s.served rd).lru.filter _ = _
    rw [replied.same]
    exact congrArg (List.filter _) alike.lru
  · rw [State.chosen, chains]
    show (if next = some d then .reading else ((s.served rd).chain d).state) = _ ∧ ((s.served rd).chain d).settle = _ ∧
      ((s.served rd).chain d).idle = _
    rw [State.served_chain, alike.state, alike.settle, alike.idle]
    exact ⟨rfl, rfl, rfl⟩

/-! ## In DRAINING -/

/-- A read's records raise neither SEALED nor STOPPED of themselves (R86, R170). -/
theorem State.flagged_generateAll_stopped (s : State) (rs : List Record) :
    (s.generateAll rs).flagged .stopped = s.flagged .stopped := by
  induction rs generalizing s with
  | nil => rfl
  | cons r rs ih =>
    rw [State.generateAll_cons, ih, State.flagged_generate_of_ne (by decide) (by decide)]
    simp

/-- The flag STOPPED after a read's judgement (R170). -/
theorem State.flagged_judged_stopped {s : State} {rd : ReadInProgress} {good : Bool} (ends : s.readEnds rd good)
    (holds : good = true ∨ (s.chain rd.chain).faultRun + 1 < (s.chain rd.chain).defn.faultLimit) :
    (s.judged rd).flagged .stopped = s.flagged .stopped := by
  cases good with
  | true =>
    exact ((s.judged_samePath rd (State.readGood_counted ends)).flagged .stopped).trans
      (s.flagged_generateAll_stopped _)
  | false =>
    have path : s.SamePath (s.faulted rd.chain) := rfl
    rw [State.judged_fault ends (holds.resolve_left Bool.false_ne_true)]
    split
    · exact ((path.generate _).flagged .stopped).trans (s.flagged_generateAll_stopped [_])
    · exact path.flagged .stopped

/-- What CompletionHandsChainBack says of DRAINING. -/
theorem State.completeRead_drains {s : State} {rd : ReadInProgress} {good : Bool} {l : List SlotNo}
    (ends : s.readEnds rd good) (waits : (s.chain rd.chain).waiting = .reads l)
    (reading : (s.chain rd.chain).state = .reading)
    (holds : good = true ∨ (s.chain rd.chain).faultRun + 1 < (s.chain rd.chain).defn.faultLimit)
    (draining : s.run.state = .draining) (noDue : s.due = []) {c : ChainNo} (named : c = rd.chain) {t : State}
    (completed : t = s.completeRead rd) :
    (t.chain c).state = .cold ∧ (t.chain c).settle = none ∧ (t.chain c).idle = 0 ∧ c ∉ t.lru ∧ t.due = [] ∧
    t.read = none ∧
    (t.records.queue = [] → t.run = { s.run with state := .idle, frameTimer := none } ∧
      t.flagged .stopped = true ∧ t.pages.current = none) ∧
    (t.records.queue ≠ [] → t.run = s.run ∧ t.frame = s.frame ∧ t.flagged .stopped = s.flagged .stopped) := by
  subst named completed
  have handed := State.handed_draining ends waits reading holds draining noDue
  have replied := s.handed_replied rd
  have warmth := State.judged_sameWarmth ends holds
  have due : (s.served rd).due = [] := by
    rw [replied.same, handed]
    exact warmth.due.trans noDue
  have chosen : s.chosen rd = { s.served rd with read := none } :=
    State.readerChoice_of_noneWarm (s := { s.served rd with read := none }) fun d m => by
      change d ∈ (s.served rd).due at m
      rw [due] at m
      cases m
  have run : (s.chosen rd).run = s.run := by
    rw [chosen]
    show (s.served rd).run = _
    rw [replied.same]
    exact State.handed_run waits
  have tested := (s.chosen rd).drainTest_touches
  have chain : (s.completeRead rd).chain rd.chain = { ((s.judged rd).chain rd.chain).chilled .cold with
      waiting := ((s.served rd).chain rd.chain).waiting } := by
    rw [State.completeRead_stages, State.chain_drainTest, chosen]
    show (s.served rd).chain rd.chain = _
    rw [State.served_chain, handed, State.chain_chill, if_pos rfl]
  have records : (s.completeRead rd).records = (s.chosen rd).records := by rw [State.completeRead_stages, tested]
  have idle : (s.chosen rd).read = none := by rw [chosen]
  refine ⟨by rw [chain]; rfl, by rw [chain]; rfl, by rw [chain]; rfl, ?_, ?_, ?_, fun empty => ?_, fun waiting => ?_⟩
  · rw [State.completeRead_stages, tested]
    show rd.chain ∉ (s.chosen rd).lru
    rw [chosen]
    show rd.chain ∉ (s.served rd).lru
    rw [replied.same, handed]
    simp [State.chill]
  · rw [State.completeRead_stages, tested]
    show (s.chosen rd).due = []
    rw [chosen]
    exact due
  · rw [State.completeRead_stages, tested]
    exact idle
  · rw [records] at empty
    have drained : (s.chosen rd).Drained := ⟨by rw [run, draining], idle, empty⟩
    rw [State.completeRead_stages, ← run]
    cases held : (s.chosen rd).pages.current with
    | none =>
      have ended := State.drainTest_unheld drained held
      refine ⟨by rw [ended], State.flagged_of_or (by rw [ended]) rfl, ?_⟩
      rw [ended]
      exact held
    | some p =>
      obtain ⟨_, w, -, -, ended⟩ := State.drainTest_held drained held
      exact ⟨by rw [ended], State.flagged_of_or (by rw [ended]) rfl, by rw [ended]⟩
  · rw [records] at waiting
    have goesOn : (s.chosen rd).drainTest = s.chosen rd := State.drainTest_of_not_drained fun drained => waiting drained.2.2
    rw [State.completeRead_stages, goesOn]
    refine ⟨run, ?_, ?_⟩
    · rw [chosen]
      show (s.served rd).frame = _
      rw [replied.same, handed]
      exact warmth.frame
    · rw [chosen]
      show (s.served rd).flagged .stopped = _
      rw [replied.flags .stopped (by decide), handed]
      exact State.flagged_judged_stopped ends holds

/-- Settles O29: in RUNNING by the grants from the chain handed back, in DRAINING by the drain-end test. -/
theorem completionHandsChainBack : Obligations.CompletionHandsChainBack := by
  rintro s rd good l c ends rfl waits reading holds
  refine ⟨_, exec_readCompletion_of_ends ends, fun running geometry u next grants first => ?_,
    fun draining noDue => State.completeRead_drains ends waits reading holds draining noDue rfl rfl⟩
  have grants : u = (s.warmed rd.chain).grantTest := grants.trans ((s.warmed rd.chain).after_grants 16)
  obtain ⟨read, attached, due, lru, chains⟩ :=
    State.completeRead_handsBack ends waits reading holds running geometry grants first
  have granted := s.warmed_granted rd.chain
  rw [← grants] at granted
  have state := (chains rd.chain).1
  have notReading : (u.chain rd.chain).state ≠ .reading := by
    rcases granted with ⟨warm, -⟩ | ⟨cold, -⟩
    · rw [warm]
      exact ChainState.noConfusion
    · rw [cold]
      exact ChainState.noConfusion
  refine ⟨read, attached, due, lru, chains, ?_, ?_, fun other => ?_, fun noneCold => ?_⟩
  · rw [(chains rd.chain).2.2, grants, State.warmed_idle]
  · rw [state]
    split
    · rename_i his
      exact ⟨fun _ => rfl, fun _ => his⟩
    · rename_i notHis
      exact ⟨fun his => absurd his notHis, fun reads => absurd reads notReading⟩
  · rw [if_neg other] at state
    rw [state, lru]
    rcases granted with ⟨warm, older, last⟩ | ⟨cold, notDue, unpinned, d, isDue, dCold, settling⟩
    · refine .inl ⟨warm, older.filter fun d => some d != next, ?_⟩
      rw [last, List.filter_append]
      simp [Ne.symm other]
    · refine .inr ⟨cold, notDue, unpinned, d, isDue, dCold, ?_⟩
      rw [(chains d).1, if_neg, settling]
      intro his
      have warm := List.find?_some (first ▸ his)
      have apart : d ≠ rd.chain := by
        rintro rfl
        exact notDue isDue
      simp [apart, dCold] at warm
  · have still : (s.warmed rd.chain).grantTest = s.warmed rd.chain := State.grantTest_of_noneCold fun d m => by
      rw [State.chain_warmed]
      split
      · exact ChainState.noConfusion
      · exact noneCold d m
    rw [grants, still, State.chain_warmed, if_pos rfl]
    exact ⟨rfl, rfl⟩

end Sys2Proof.Machine
end
